-- ==== Sys2Proof/Word.lean ====
section
/-!
DEFINITION. The plainest types of the model: a byte of the link or of text, a time in whole µs, and a timer.
-/

namespace Sys2Proof

/-- A character code, a byte of a frame or a converter code: what the manual numbers as eight bits. -/
abbrev Byte := BitVec 8

/-- A time, or a length of time, in whole µs (00_scope.md, Conventions). -/
abbrev Micros := Nat

/-- A timer of the part: `none` while it is stopped, `some t` while it runs and is to end at the moment `t`. -/
abbrev Timer := Option Nat

end Sys2Proof
end

