-- ==== Sys2Proof/Syntax.lean ====
section
/-!
DEFINITION. The commands and events of spec/opcode_table.json, one constructor for each row, in the table's order.

The rows whose moment the sender chooses carry `dt`, the time in µs since the row before (log 2). The others happen at
the moment a timer of the part ends, or at once, and carry no time. A command row is the moment at which the check byte
of its frame is received; it carries the frame's payload as it came, so that a wrong length can be told (R179).
-/

namespace Sys2Proof

/-- R155: a queue the Traffic Router takes characters from. -/
inductive Source where
  | rx | key | stq
  deriving DecidableEq, Repr

/-- The rows of the table of operations and events. -/
inductive Instr where
  | identify (dt : Micros) (payload : List Byte)
  | restart (dt : Micros) (payload : List Byte)
  | readConditions (dt : Micros) (payload : List Byte)
  | readStatus (dt : Micros) (payload : List Byte)
  | setReports (dt : Micros) (payload : List Byte)
  | setHead (dt : Micros) (payload : List Byte)
  | setDensity (dt : Micros) (payload : List Byte)
  | printText (dt : Micros) (payload : List Byte)
  | setFormat (dt : Micros) (payload : List Byte)
  | saveFormat (dt : Micros) (payload : List Byte)
  | restoreFormat (dt : Micros) (payload : List Byte)
  | feed (dt : Micros) (payload : List Byte)
  | loadGlyph (dt : Micros) (payload : List Byte)
  | setLine (dt : Micros) (payload : List Byte)
  | setCarrier (dt : Micros) (payload : List Byte)
  | connect (dt : Micros) (payload : List Byte)
  | disconnect (dt : Micros) (payload : List Byte)
  | sendBreak (dt : Micros) (payload : List Byte)
  | setLoop (dt : Micros) (payload : List Byte)
  | setKeys (dt : Micros) (payload : List Byte)
  | loadKeymap (dt : Micros) (payload : List Byte)
  | sendText (dt : Micros) (payload : List Byte)
  | setRoutes (dt : Micros) (payload : List Byte)
  | setFlow (dt : Micros) (payload : List Byte)
  | clearQueue (dt : Micros) (payload : List Byte)
  | unknownKindFrame (dt : Micros) (kind : Byte) (payload : List Byte)
  | strayByte (dt : Micros) (byte : Byte)
  | leadByte (dt : Micros)
  | lengthByteAbove40 (dt : Micros) (byte : Byte)
  | unreadyFrame (dt : Micros)
  | gapTimerExpiry
  | linkFrameEnd
  | powerUpReset (dt : Micros)
  | generalResetFromPin (dt : Micros)
  | resetEnd (dt : Micros)
  | energizingTimerExpiry
  | holdTimerExpiry
  | loadingEnd
  | pulseEnd
  | stepEnd
  | settlePeriodEnd
  | paperSensorChange (dt : Micros)
  | paperPresentTimerExpiry
  /-- The conversion of the channel that is due ends with `code`. -/
  | converterReading (code : Byte)
  | formatterTakeItem
  | lapseTimerExpiry
  | flushTimerExpiry
  | drainCommit
  | formFeedEntryAppend
  | feedEntryAppend
  /-- A zero crossing of the Discriminator's input. -/
  | halfPeriodEnd (dt : Micros)
  | characterFinished
  | breakWatchEnd
  | framerTake
  | framerCharacterEnd
  | breakTimerExpiry
  | breakMarkEnd
  | carrierWindowEnd
  | connectTimerExpiry
  | settleTimerExpiry
  | dropoutTimerExpiry
  | clearingTimerExpiry
  | remoteHoldTimerExpiry
  | routerTake (source : Source)
  /-- The drive line that is due is read while the contacts at the positions `closed` are closed. -/
  | scanReading (closed : List Nat)
  | repeatTimerExpiry
  | beeperEndTime
  | cellCentre
  | cellBoundary
  | frameByteReceived (dt : Micros) (byte : Byte)
  | wrongCheckByte (dt : Micros) (kind : Byte) (payload : List Byte) (check : Byte)
  deriving DecidableEq, Repr

end Sys2Proof
end

