-- ==== Sys2Proof/Config.lean ====
section
/-!
DEFINITION. The constants the manual fixes, and the one free value it leaves open: the patterns of the ROM font.
-/

namespace Sys2Proof.Config

/-! ### Capacities -/

/-- R3: entries of the row queue. -/
abbrev rowQueueCap : Nat := 32
/-- R47, R69: free row queue entries a commit needs. -/
abbrev commitRoom : Nat := 12
/-- R53: open lines of the window at most. -/
abbrev windowCap : Nat := 4
/-- R80: entries of the print text queue. -/
abbrev ptqCap : Nat := 64
/-- R164: characters of the send text queue. -/
abbrev stqCap : Nat := 64
/-- R83, R165: free places at which a wanted flag clears. -/
abbrev wantedRoom : Nat := 32
/-- R88: snapshots of the format save stack. -/
abbrev stackCap : Nat := 4
/-- R162: characters of the transmit queue. -/
abbrev txCap : Nat := 8
/-- R166: entries of the RXDATA queue. -/
abbrev rxDataCap : Nat := 32
/-- R166: entries of the KEYDATA queue. -/
abbrev keyDataCap : Nat := 16
/-- R185: entries one data report takes at most. -/
abbrev reportTake : Nat := 16
/-- R150: characters of the key queue. -/
abbrev keyQueueCap : Nat := 16
/-- R149: fill of the key queue at which a repeat is skipped. -/
abbrev repeatSkipFill : Nat := 4
/-- R181: replies of the reply queue. -/
abbrev replyCap : Nat := 4
/-- R193: where every counter stops. -/
abbrev counterMax : Nat := 65535
/-- R117: where every run of the Carrier Monitor stops. -/
abbrev runMax : Nat := 99

/-! ### Times, in µs -/

/-- R8. -/
abbrev energizeTime : Micros := 20000
/-- R9. -/
abbrev holdTime : Micros := 400000
/-- R12: loading a phase into the head. -/
abbrev loadTime : Micros := 80
/-- R15. -/
abbrev stepTime : Micros := 2500
/-- R17. -/
abbrev settleTime : Micros := 10000
/-- R20. -/
abbrev paperTime : Micros := 1000000
/-- R11: the longest gap after which a dot is still hot. -/
abbrev hotGap : Micros := 50000
/-- R11: the rest after which boost is armed. -/
abbrev restTime : Micros := 5000000
/-- R24: one conversion. -/
abbrev conversionTime : Micros := 1000
/-- R50. -/
abbrev lapseTime : Micros := 2000000
/-- R110. -/
abbrev breakTime : Micros := 250000
/-- R113. -/
abbrev windowTime : Micros := 10000
/-- R123. -/
abbrev settleMarkTime : Micros := 400000
/-- R127. -/
abbrev clearingTime : Micros := 250000
/-- R137: one slot of a scan pass. -/
abbrev slotTime : Micros := 500
/-- R151: a beep. -/
abbrev beepTime : Micros := 150000
/-- R151: a click. -/
abbrev clickTime : Micros := 40000
/-- R151: half a cycle of the 2 kHz wave on BEEP. -/
abbrev beepHalf : Micros := 250
/-- R176: one byte on the link ("about 521 µs"; log 7). -/
abbrev byteTime : Micros := 521
/-- R176: bits a second on the link. -/
abbrev linkBits : Nat := 19200
/-- R93: the parts of a µs in which crossings of the part's own wave are told: a common multiple of the four tones'
frequencies, so that each half-cycle is a whole number of parts (log 17). -/
abbrev waveParts : Nat := 15739360
/-- R178. -/
abbrev gapTime : Micros := 10000
/-- R194: how long a reset asked for by RESTART lasts. -/
abbrev restartTime : Micros := 1000

/-! ### The ROM font (R75), a free value within the rule's limits (log 9)

The manual gives the patterns of 20h and 7Fh and says of the others only where their marks may lie. What those marks are
is left free: nothing in Lean can evaluate these two constants. -/

/-- The marks of ROM code `code` in glyph row `row`, glyph column 0 in the highest bit. -/
opaque romMarks : (code row : Nat) → Byte

/-- A place of ROM code `code` that is marked for certain: R75 says that every pattern but that of 20h marks at least one. -/
opaque romSurePlace : (code : Nat) → Nat

end Sys2Proof.Config
end

