-- ==== Sys2Proof/Machine/Keymap.lean ====
section
/-!
DEFINITION. The entries of the keymap and the ROM layout that either kind of reset places in it (R147, R148).
-/

namespace Sys2Proof.Machine

/-- R147: what a MODIFIER entry names. -/
inductive Modifier where
  | shift | ctrl | fn | lock
  deriving DecidableEq, Repr

/-- R146: the three key actions. -/
inductive KeyAction where
  | sendBreak | feed | pause
  deriving DecidableEq, Repr

/-- R147: the kind of a keymap entry, with the value of its kind. -/
inductive KeyKind where
  | none
  | char (code : Byte)
  | modifier (m : Modifier)
  | action (a : KeyAction)
  deriving DecidableEq, Repr

/-- R147: an entry of a keymap layer. -/
structure KeyEntry where
  kind : KeyKind
  repeats : Bool
  lockable : Bool
  deriving DecidableEq, Repr

/-- R147: a layer's name. -/
inductive Layer where
  | plain | shift | ctrl | fn
  deriving DecidableEq, Repr

/-- R147: the four layers, 72 entries each, in the order of the key positions. -/
structure Keymap where
  plain : List KeyEntry
  shift : List KeyEntry
  ctrl : List KeyEntry
  fn : List KeyEntry
  deriving DecidableEq, Repr

/-- R147: a NONE entry, a crossing with no key. -/
def KeyEntry.empty : KeyEntry := { kind := .none, repeats := false, lockable := false }

/-- R148: a CHAR entry of the ROM layout; every one carries REPEAT. -/
def KeyEntry.ofCode (code : Nat) : KeyEntry :=
  { kind := .char (BitVec.ofNat 8 code), repeats := true, lockable := false }

/-- R148: the PLAIN entry of a letter's position carries LOCKABLE as well. -/
def KeyEntry.ofPlain (code : Nat) : KeyEntry :=
  { KeyEntry.ofCode code with lockable := decide (0x61 ≤ code ∧ code ≤ 0x7A) }

/-- R148: a modifier key of the ROM layout. -/
def KeyEntry.ofModifier (m : Modifier) : KeyEntry :=
  { kind := .modifier m, repeats := false, lockable := false }

/-- R148: an action of the ROM layout. -/
def KeyEntry.ofAction (a : KeyAction) : KeyEntry :=
  { kind := .action a, repeats := false, lockable := false }

/-- A crossing of the ROM layout's PLAIN table. -/
inductive RomKey where
  | code (c : Nat)
  | modifier (m : Modifier)
  | absent
  deriving DecidableEq, Repr

/-- R148: the PLAIN table's line KD0, KS0 to KS8 (characters as their codes). -/
def romLine0 : List RomKey :=
  [.code 0x31, .code 0x32, .code 0x33, .code 0x34, .code 0x35, .code 0x36, .code 0x37, .code 0x38, .code 0x39]

/-- R148: the PLAIN table's line KD1, KS0 to KS8 (characters as their codes). -/
def romLine1 : List RomKey :=
  [.code 0x30, .code 0x2D, .code 0x3D, .code 0x08, .code 0x71, .code 0x77, .code 0x65, .code 0x72, .code 0x74]

/-- R148: the PLAIN table's line KD2, KS0 to KS8 (characters as their codes). -/
def romLine2 : List RomKey :=
  [.code 0x79, .code 0x75, .code 0x69, .code 0x6F, .code 0x70, .code 0x5B, .code 0x5D, .code 0x0D, .code 0x61]

/-- R148: the PLAIN table's line KD3, KS0 to KS8 (characters as their codes). -/
def romLine3 : List RomKey :=
  [.modifier .ctrl, .code 0x73, .code 0x64, .code 0x66, .code 0x67, .code 0x68, .code 0x6A, .code 0x6B, .code 0x6C]

/-- R148: the PLAIN table's line KD4, KS0 to KS8 (characters as their codes). -/
def romLine4 : List RomKey :=
  [.modifier .lock, .code 0x3B, .code 0x27, .code 0x60, .code 0x7A, .code 0x78, .code 0x63, .code 0x76, .code 0x62]

/-- R148: the PLAIN table's line KD5, KS0 to KS8 (characters as their codes). -/
def romLine5 : List RomKey :=
  [.modifier .shift, .code 0x6E, .code 0x6D, .code 0x2C, .code 0x2E, .code 0x2F, .code 0x5C, .code 0x1B,
    .modifier .shift]

/-- R148: the PLAIN table's line KD6, KS0 to KS8 (characters as their codes). -/
def romLine6 : List RomKey :=
  [.code 0x09, .code 0x0A, .absent, .absent, .absent, .absent, .absent, .absent, .absent]

/-- R148: the PLAIN table's line KD7, KS0 to KS8 (characters as their codes). -/
def romLine7 : List RomKey :=
  [.modifier .fn, .absent, .code 0x20, .absent, .absent, .absent, .absent, .absent, .absent]

/-- R148: the PLAIN table, by key position. -/
def romTable : List RomKey :=
  [romLine0, romLine1, romLine2, romLine3, romLine4, romLine5, romLine6, romLine7].flatten

/-- R148: the shifted marks, each PLAIN code with its shifted code. -/
def shiftedMarks : List (Nat × Nat) :=
  [(0x31, 0x21), (0x32, 0x22), (0x33, 0x23), (0x34, 0x24), (0x35, 0x25), (0x36, 0x26), (0x37, 0x27), (0x38, 0x28),
    (0x39, 0x29), (0x30, 0x5F), (0x2D, 0x2A)] ++
  [(0x3D, 0x2B), (0x5B, 0x7B), (0x5D, 0x7D), (0x3B, 0x3A), (0x27, 0x22), (0x60, 0x40), (0x2C, 0x3C), (0x2E, 0x3E),
    (0x2F, 0x3F), (0x5C, 0x7C)]

/-- R148: the shifted code of a PLAIN code: capitals for letters, the table of shifted marks, and the same code for BS,
HT, LF, CR, ESC and space. -/
def shiftedCode (c : Nat) : Nat :=
  if 0x61 ≤ c ∧ c ≤ 0x7A then c - 0x20 else (shiftedMarks.lookup c).getD c

/-- R148: the CTRL code of a PLAIN code, where the layer has one: a letter's capital less 40h, and [ \ ]. -/
def controlCode (c : Nat) : Option Nat :=
  if 0x61 ≤ c ∧ c ≤ 0x7A then some (c - 0x60)
  else [(0x5B, 0x1B), (0x5C, 0x1C), (0x5D, 0x1D)].lookup c

/-- R148: a crossing's PLAIN entry. -/
def RomKey.plain : RomKey → KeyEntry
  | .code c => .ofPlain c
  | .modifier m => .ofModifier m
  | .absent => .empty

/-- R148: a crossing's SHIFT entry; modifier positions are NONE there. -/
def RomKey.shift : RomKey → KeyEntry
  | .code c => .ofCode (shiftedCode c)
  | .modifier _ => .empty
  | .absent => .empty

/-- R148: a crossing's CTRL entry. -/
def RomKey.ctrl : RomKey → KeyEntry
  | .code c => match controlCode c with
    | some k => .ofCode k
    | none => .empty
  | .modifier _ => .empty
  | .absent => .empty

/-- R148: the FN layer: BREAK, FEED and PAUSE at positions 0, 1 and 2. -/
def romFn : List KeyEntry :=
  [.ofAction .sendBreak, .ofAction .feed, .ofAction .pause] ++ List.replicate 69 .empty

/-- R148: the ROM layout. -/
def romKeymap : Keymap where
  plain := romTable.map RomKey.plain
  shift := romTable.map RomKey.shift
  ctrl := romTable.map RomKey.ctrl
  fn := romFn

end Sys2Proof.Machine
end

