-- ==== Sys2Proof/Machine/Blocks.lean ====
section
/-!
DEFINITION. The state of each block of the part, one structure a block, with what either kind of reset leaves in it.

A reset value here is the value while the reset holds the block; RESET_END (Machine/Reset.lean) starts the timers that
run from the end of a reset.
-/

namespace Sys2Proof.Machine

/-! ### Link Port -/

/-- R186: what a reset was caused by. -/
inductive Cause where
  | power | pin | command
  deriving DecidableEq, Repr

/-- R180: the reasons of a REJECT frame. -/
inductive Reason where
  | check | length | unknown | torn | range | state | locked
  deriving DecidableEq, Repr

/-- R193: the groups of READ STATUS. -/
inductive Group where
  | line | print | keys | supply
  deriving DecidableEq, Repr

/-- R181: an entry of the reply queue. What a reading command is to read is kept; its content is built when it is sent. -/
inductive Reply where
  | done (kind : Byte)
  | clamped (kind : Byte)
  | partly (kind : Byte) (count : Nat)
  | reject (kind : Byte) (reason : Reason)
  | identify
  | conditions
  | status (group : Group)
  | restart
  deriving DecidableEq, Repr

/-- R177: the frame receiver; the bytes collected are the kind, the length and the payload so far. -/
inductive Receiver where
  | outside
  | inside (ready : Bool) (bytes : List Byte)
  deriving DecidableEq, Repr

/-- R183: the frame being sent, the end of its last stop bit, and whether it is RESTART's reply. -/
structure TxFrame where
  bytes : List Byte
  due : Micros
  restart : Bool
  deriving DecidableEq, Repr

/-- R184: the report mask. -/
structure ReportMask where
  condition : Bool
  lineState : Bool
  rxData : Bool
  keyData : Bool
  space : Bool
  deriving DecidableEq, Repr

/-- The Link Port (R177 to R187, R191). -/
structure LinkPort where
  receiver : Receiver
  gap : Timer
  replies : List Reply
  tx : Option TxFrame
  mask : ReportMask
  pendCondition : Bool
  pendLineState : Bool
  pendSpace : Bool
  /-- The sixteen condition latches, numbered as the latch mask of R189 numbers them. -/
  latches : BitVec 16
  keptCause : Option Cause
  lastCause : Cause
  strayBytes : Nat
  unreadyFrames : Nat
  tornFrames : Nat
  /-- A RESTART has been accepted and its reset has not yet taken place (R182). -/
  restartOwed : Bool
  deriving DecidableEq, Repr

/-- R187. -/
def LinkPort.reset : LinkPort where
  receiver := .outside
  gap := none
  replies := []
  tx := none
  mask := { condition := true, lineState := false, rxData := false, keyData := false, space := false }
  pendCondition := false
  pendLineState := false
  pendSpace := false
  latches := 0
  keptCause := none
  lastCause := .power
  strayBytes := 0
  unreadyFrames := 0
  tornFrames := 0
  restartOwed := false

/-! ### Supply Monitor -/

/-- R24: the channels of the converter. -/
inductive Channel where
  | battery | temp | level
  deriving DecidableEq, Repr

/-- R25: a channel's latest reading and its valid flag. -/
structure Reading where
  code : Byte
  valid : Bool
  deriving DecidableEq, Repr

/-- The Supply Monitor (R24 to R45). -/
structure Supply where
  channel : Channel
  conversion : Timer
  battery : Reading
  temp : Reading
  level : Reading
  hot : Bool
  starved : Bool
  batteryLow : Bool
  lowCount : Nat
  lastLimit : Nat
  lastCold : Micros
  lastHot : Micros
  density : Int
  hotRatio : Nat
  boost : Bool
  deriving DecidableEq, Repr

/-- R45. -/
def Supply.reset : Supply where
  channel := .battery
  conversion := none
  battery := { code := 0, valid := false }
  temp := { code := 0, valid := false }
  level := { code := 0, valid := false }
  hot := false
  starved := false
  batteryLow := false
  lowCount := 0
  lastLimit := 0
  lastCold := 0
  lastHot := 0
  density := 0
  hotRatio := 80
  boost := true

/-! ### Head Driver -/

/-- R1: the resistance class. -/
inductive HeadClass where
  | a | b | c | d
  deriving DecidableEq, Repr

/-- R1: the head configuration once it is set. -/
structure HeadConfig where
  cls : HeadClass
  maxWidth : Micros
  maxDots : Nat
  deriving DecidableEq, Repr

/-- R3: an entry of the row queue. A BURN entry's dots are in ascending order; their count is the list's length. -/
inductive RowEntry where
  | burn (dots : List Nat)
  | feed (rows : Nat)
  deriving DecidableEq, Repr

/-- R4: the start that a BURN row is still to make. -/
inductive NextStart where
  | phase | step
  deriving DecidableEq, Repr

/-- R4: the record of a BURN row. `hot` is the class split: none until it is made, then the row's hot dots. -/
structure BurnRow where
  marked : List Nat
  hot : Option (List Nat)
  burned : List Nat
  next : NextStart
  deriving DecidableEq, Repr

/-- R4: the current row record; a FEED keeps its count and the steps still to be made. -/
inductive CurrentRow where
  | burn (row : BurnRow)
  | feed (count left : Nat)
  deriving DecidableEq, Repr

/-- The seven states of the driver. -/
inductive DriverState where
  | unconfigured | idle | energizing | burning | stepping | settling | paused
  deriving DecidableEq, Repr

/-- R7. -/
inductive Motor where
  | released | energizing | held | stepping
  deriving DecidableEq, Repr

/-- R18: the pause reasons. -/
structure Reasons where
  hot : Bool
  starved : Bool
  batteryLow : Bool
  noPaper : Bool
  deriving DecidableEq, Repr

/-- R18: no reason. -/
def Reasons.none : Reasons := { hot := false, starved := false, batteryLow := false, noPaper := false }

/-- R12: a phase being loaded (`loading`) or strobed. -/
structure Phase where
  dots : List Nat
  width : Micros
  loading : Bool
  due : Micros
  deriving DecidableEq, Repr

/-- The Head Driver (R1 to R23). -/
structure Head where
  /-- R1, R2: none while the head configuration is not set; the lock is closed when it is set. -/
  config : Option HeadConfig
  queue : List RowEntry
  row : Option CurrentRow
  state : DriverState
  reasons : Reasons
  /-- R10, R14: a start waits for a first reading. -/
  waiting : Bool
  position : Nat
  motor : Motor
  energize : Timer
  hold : Timer
  settle : Timer
  paperTimer : Timer
  step : Timer
  phase : Option Phase
  history : List Nat
  /-- R11: the moment of the last pulse end; none reads "5 s or more". -/
  lastPulse : Option Nat
  boostRows : Nat
  paper : Bool
  rowsBurned : Nat
  phasesBurned : Nat
  deriving DecidableEq, Repr

/-- R23, with the configuration and the sensor level that stand. -/
def Head.reset (config : Option HeadConfig) (paper : Bool) : Head where
  config := config
  queue := []
  row := none
  state := if config.isSome then .idle else .unconfigured
  reasons := .none
  waiting := false
  position := 0
  motor := .released
  energize := none
  hold := none
  settle := none
  paperTimer := none
  step := none
  phase := none
  history := []
  lastPulse := none
  boostRows := 0
  paper := paper
  rowsBurned := 0
  phasesBurned := 0

/-! ### Print Formatter -/

/-- R53: a cell's wide mark. -/
inductive Wide where
  | none | leftHalf | rightHalf
  deriving DecidableEq, Repr

/-- R53: a cell of an open line. -/
structure Cell where
  codes : List Byte
  wide : Wide
  deriving DecidableEq, Repr

/-- R53: an open line. -/
structure Line where
  cells : List Cell
  ink : Bool
  continuation : Bool
  deriving DecidableEq, Repr

/-- R53: a line with every cell empty and both flags clear. -/
def Line.fresh : Line where
  cells := List.replicate 40 { codes := [], wide := .none }
  ink := false
  continuation := false

/-- R88: what a snapshot of the format save stack holds, six of the fields of the context. -/
structure Layout where
  left : Nat
  right : Nat
  wrap : Bool
  double : Bool
  mark : Nat
  tabs : List Nat
  deriving DecidableEq, Repr

/-- R52: the layout's reset values. -/
def Layout.reset : Layout where
  left := 0
  right := 39
  wrap := true
  double := false
  mark := 0
  tabs := [8, 16, 24, 32]

/-- R85: the fields of a SET FORMAT, each present or absent. -/
structure FormatFields where
  left : Option Nat
  right : Option Nat
  wrap : Option Bool
  double : Option Bool
  mark : Option Nat
  tabs : Option (List Nat)
  formLength : Option Nat
  flushDelay : Option Nat
  deriving DecidableEq, Repr

/-- R80: a directive record. -/
inductive Directive where
  | setFormat (fields : FormatFields)
  | saveFormat
  | restoreFormat
  | feed (rows : Nat)
  deriving DecidableEq, Repr

/-- R46: an item of the formatter, and R80: an entry of the print text queue. -/
inductive Item where
  | char (code : Byte)
  | directive (d : Directive)
  deriving DecidableEq, Repr

/-- R49: the owner of the line. -/
inductive Owner where
  | none | rx | key | stq | ptq
  deriving DecidableEq, Repr

/-- R46: the kinds of drain, with what each has still to do: a FLUSH keeps the noted column (R72); a FORM FEED keeps the
FEED entries it has still to append once its last line is committed (R64); a FEED keeps its count and whether its last line
is committed (R90). -/
inductive Drain where
  | flush (column : Nat)
  | formFeed (entries : Option (List Nat))
  | feed (rows : Nat) (committed : Bool)
  deriving DecidableEq, Repr

/-- R46: the formatter's activity. -/
inductive Activity where
  | ready
  | stalled
  | draining (d : Drain)
  deriving DecidableEq, Repr

/-- The Print Formatter (R46 to R92). A soft glyph is its ten rows, glyph column 0 in the highest bit. -/
structure Formatter where
  window : List Line
  cursorLine : Nat
  column : Nat
  layout : Layout
  formLength : Nat
  formCounter : Nat
  /-- In ms; 0 is no flush. -/
  flushDelay : Nat
  activity : Activity
  owner : Owner
  keyFeed : Bool
  lapse : Timer
  flush : Timer
  ptq : List Item
  ptqWanted : Bool
  stack : List Layout
  soft : List (List Byte)
  deriving DecidableEq, Repr

/-- R52, R53, R74, R92. -/
def Formatter.reset : Formatter where
  window := [.fresh]
  cursorLine := 0
  column := 0
  layout := .reset
  formLength := 0
  formCounter := 0
  flushDelay := 800
  activity := .ready
  owner := .none
  keyFeed := false
  lapse := none
  flush := none
  ptq := []
  ptqWanted := false
  stack := []
  soft := List.replicate 16 (List.replicate 10 0)

/-! ### Coupler Modem -/

/-- R93. -/
inductive Role where
  | originate | answer
  deriving DecidableEq, Repr

/-- R93: the two channels. -/
inductive ToneChannel where
  | low | high
  deriving DecidableEq, Repr

/-- R96. -/
inductive Speed where
  | b110 | b150 | b300
  deriving DecidableEq, Repr

/-- R96. -/
inductive Parity where
  | none | even | odd | mark | space
  deriving DecidableEq, Repr

/-- R96: the seven settings of SET LINE. `eightBits` is 8 data bits, `twoStops` 2 stop bits, `deep` depth 32. -/
structure LineFormat where
  speed : Speed
  eightBits : Bool
  parity : Parity
  twoStops : Bool
  deep : Bool
  substitution : Bool
  substitute : Byte
  deriving DecidableEq, Repr

/-- R96. -/
def LineFormat.reset : LineFormat where
  speed := .b300
  eightBits := false
  parity := .even
  twoStops := false
  deep := true
  substitution := true
  substitute := 0x7F

/-- R94: the Tone Generator's output. -/
inductive Tone where
  | silent | mark | space
  deriving DecidableEq, Repr

/-- R94: the Tone Generator: its output, the channel it took up at the last change from SILENT, and the phase of the wave,
in millionths of a cycle, as it stood at the moment `since` of the last change of output. -/
structure ToneGen where
  output : Tone
  channel : ToneChannel
  phase : Nat
  since : Micros
  deriving DecidableEq, Repr

/-- R94, R112. -/
def ToneGen.reset : ToneGen where
  output := .silent
  channel := .low
  phase := 0
  since := 0

/-- R100: the Deframer. A character in hand keeps its start edge, the cells read so far (MARK is true) and whether it is
spoiled; a character held in BREAK WATCH keeps parity_bad. -/
inductive Deframer where
  | waitMark
  | waitStart
  | assembling (edge : Micros) (cells : List Bool) (spoiled : Bool)
  | breakWatch (edge : Micros) (parityBad : Bool) (spoiled : Bool)
  deriving DecidableEq, Repr

/-- R108: the character the Framer is framing: its code, the moment of its taking and its present cell. -/
structure FramedChar where
  code : Byte
  start : Micros
  cell : Nat
  deriving DecidableEq, Repr

/-- The Discriminator, the Deframer and the Framer (R98 to R111). -/
structure Signal where
  /-- R98: the moment of the last crossing of the present input, in parts of a µs (Config.waveParts); none until its first. -/
  crossing : Option Nat
  /-- R99: the line state, true for MARK. -/
  lineMark : Bool
  deframer : Deframer
  framer : Option FramedChar
  breakTimer : Timer
  markTimer : Timer
  received : Nat
  muted : Nat
  deriving DecidableEq, Repr

/-- R112. -/
def Signal.reset : Signal where
  crossing := none
  lineMark := true
  deframer := .waitStart
  framer := none
  breakTimer := none
  markTimer := none
  received := 0
  muted := 0

/-- The Carrier Monitor (R113 to R119). `window` is stopped while the monitor is idle. -/
structure Monitor where
  total : Nat
  inBand : Nat
  window : Timer
  levelHigh : Bool
  present : Bool
  qualifying : Nat
  badRun : Nat
  lowRun : Nat
  noisy : Bool
  weak : Bool
  /-- In ms. -/
  dropoutHold : Nat
  /-- In s. -/
  connectTimeout : Nat
  deriving DecidableEq, Repr

/-- R135. -/
def Monitor.reset : Monitor where
  total := 0
  inBand := 0
  window := none
  levelHigh := false
  present := false
  qualifying := 0
  badRun := 0
  lowRun := 0
  noisy := false
  weak := false
  dropoutHold := 600
  connectTimeout := 30

/-- The connect states. -/
inductive ConnState where
  | idle | waitAnswer | answering | settle | online | fade | clearing | test
  deriving DecidableEq, Repr

/-- R131. -/
inductive LoopMode where
  | normal | localTone | localChar | remoteEcho
  deriving DecidableEq, Repr

/-- The Connection Controller (R120 to R135), with the role of R93. -/
structure Conn where
  state : ConnState
  loop : LoopMode
  role : Role
  connectTimer : Timer
  settleTimer : Timer
  dropoutTimer : Timer
  clearingTimer : Timer
  deriving DecidableEq, Repr

/-- R112, R135. -/
def Conn.reset : Conn where
  state := .idle
  loop := .normal
  role := .originate
  connectTimer := none
  settleTimer := none
  dropoutTimer := none
  clearingTimer := none

/-! ### Traffic Router -/

/-- R105, R159: a received character with its flags. -/
structure RxChar where
  code : Byte
  parityBad : Bool
  framingBad : Bool
  deriving DecidableEq, Repr

/-- R150: a character of the key queue, and R166: an entry of the KEYDATA queue. -/
structure KeyChar where
  code : Byte
  repeated : Bool
  deriving DecidableEq, Repr

/-- R156: a set of sinks. -/
structure SinkSet where
  line : Bool
  print : Bool
  link : Bool
  deriving DecidableEq, Repr

/-- R171: the kind of a flow code. -/
inductive FlowKind where
  | hold | resume
  deriving DecidableEq, Repr

/-- R171: an unsent flow code, with its value as it was at placing. -/
structure FlowCode where
  kind : FlowKind
  code : Byte
  deriving DecidableEq, Repr

/-- The Traffic Router (R155 to R175). The key queue belongs to the Keyboard Scanner. -/
structure Router where
  rxRoute : SinkSet
  keyRoute : SinkSet
  stqRoute : SinkSet
  store : List RxChar
  txQueue : List Byte
  slot : Option FlowCode
  stq : List Byte
  stqWanted : Bool
  rxData : List Byte
  keyData : List KeyChar
  flowOn : Bool
  holdCode : Byte
  resumeCode : Byte
  /-- In s; 0 is no timeout. -/
  holdTimeout : Nat
  /-- R170: the local hold state, true for HOLD SENT. -/
  holdSent : Bool
  remoteHeld : Bool
  remoteTimer : Timer
  pause : Bool
  parityErrors : Nat
  framingErrors : Nat
  overruns : Nat
  discards : Nat
  echoDrops : Nat
  deriving DecidableEq, Repr

/-- R175. -/
def Router.reset : Router where
  rxRoute := { line := false, print := true, link := false }
  keyRoute := { line := true, print := false, link := false }
  stqRoute := { line := true, print := false, link := false }
  store := []
  txQueue := []
  slot := none
  stq := []
  stqWanted := false
  rxData := []
  keyData := []
  flowOn := true
  holdCode := 0x13
  resumeCode := 0x11
  holdTimeout := 30
  holdSent := false
  remoteHeld := false
  remoteTimer := none
  pause := false
  parityErrors := 0
  framingErrors := 0
  overruns := 0
  discards := 0
  echoDrops := 0

/-! ### Keyboard Scanner -/

/-- R138: the role of a position accepted as down. -/
inductive KeyRole where
  | none | shift | ctrl | fn | lock | nonModifier
  deriving DecidableEq, Repr

/-- R138: a debounce record, with the latest reading of R141 (true for down). -/
structure KeyRecord where
  down : Bool
  count : Nat
  refused : Bool
  role : KeyRole
  latest : Bool
  deriving DecidableEq, Repr

/-- R138, R154: a record after a reset. The latest reading before the first pass has made one is up, which neither rule states
(log 28). -/
def KeyRecord.reset : KeyRecord where
  down := false
  count := 0
  refused := false
  role := .none
  latest := false

/-- R151: the beeper while it sounds: the moment its wave began, when it changed from silent to sounding, and its end time. -/
structure Beep where
  since : Micros
  due : Micros
  deriving DecidableEq, Repr

/-- The Keyboard Scanner (R136 to R154). -/
structure Keys where
  records : List KeyRecord
  /-- R137: the drive line whose reading is taken next. -/
  scanLine : Nat
  /-- R139: the pass in progress is the first after a reset. -/
  firstPass : Bool
  slot : Timer
  keymap : Keymap
  lock : Bool
  repeatKey : Option Nat
  repeatCode : Option Byte
  repeatTimer : Timer
  queue : List KeyChar
  /-- R151: the beeper; none while it is silent. -/
  beeper : Option Beep
  debounce : Nat
  rolloverSix : Bool
  /-- In ms. -/
  repeatDelay : Nat
  repeatRate : Nat
  keysLost : Nat
  ghosts : Nat
  deriving DecidableEq, Repr

/-- R154. -/
def Keys.reset : Keys where
  records := List.replicate 72 .reset
  scanLine := 0
  firstPass := true
  slot := none
  keymap := romKeymap
  lock := false
  repeatKey := none
  repeatCode := none
  repeatTimer := none
  queue := []
  beeper := none
  debounce := 3
  rolloverSix := true
  repeatDelay := 500
  repeatRate := 10
  keysLost := 0
  ghosts := 0

end Sys2Proof.Machine
end

