-- ==== Sys2Proof/Machine/State.lean ====
section
/-!
DEFINITION. The state of the part, the reasons a step could stop, and the state right after a reset.
-/

namespace Sys2Proof.Machine

/-- The machine. `now` and `pending` are the model's own (log 1, log 2); the rest is the part's. -/
structure State where
  /-- The present moment, in µs. -/
  now : Micros
  /-- The commands and events still to be taken, oldest first. -/
  pending : List Instr
  /-- R194: the reset in progress, by its cause. -/
  resetting : Option Cause
  /-- R194: the end of a reset that RESTART asked for. -/
  resetEnd : Timer
  link : LinkPort
  supply : Supply
  head : Head
  fmt : Formatter
  format : LineFormat
  tone : ToneGen
  signal : Signal
  monitor : Monitor
  conn : Conn
  router : Router
  keys : Keys
  deriving DecidableEq, Repr

/-- No rule of the manual stops the part, so there is no fault: every refused command is answered by a REJECT frame (R180),
and every character or key that cannot be kept is counted or latched. The type is empty; that is safe, since nothing is
stopped where the part would go on. -/
inductive Fault where
  deriving DecidableEq, Repr

/-- Why the model itself could have no meaning for a row. -/
inductive Refusal where
  /-- Raised by an arm of exec that has no meaning yet; every arm has one, so it is raised by none. Safe: it would stop the
  model where the part goes on. -/
  | notModelled (mnemonic : String)
  deriving DecidableEq, Repr

/-- The state while a reset is in progress: every block held at its reset values (R194). The latches, the kept cause and
the last cause change only when the reset ends. -/
def State.held (cause : Cause) (config : Option HeadConfig) (paper : Bool) (link : LinkPort) : State where
  now := 0
  pending := []
  resetting := some cause
  resetEnd := none
  link := { LinkPort.reset with latches := link.latches, keptCause := link.keptCause, lastCause := link.lastCause }
  supply := .reset
  head := .reset config paper
  fmt := .reset
  format := .reset
  tone := .reset
  signal := .reset
  monitor := .reset
  conn := .reset
  router := .reset
  keys := .reset

/-- The machine right after a power-up reset has ended (R194, R196): RESTARTED is set with the cause POWER, the CONDITION
report that carries it is being sent, and the converter, the scan and the first window have begun. The moment 0 and the
absence of paper are DESIGN CHOICES (log 2, log 8). -/
def State.reset : State where
  now := 0
  pending := []
  resetting := none
  resetEnd := none
  link := { LinkPort.reset with
    latches := 1
    keptCause := some .power
    lastCause := .power
    tx := some { bytes := [0xC3, 0x61, 0x02, 0x01, 0x00, 0x9C], due := 6 * Config.byteTime, restart := false } }
  supply := { Supply.reset with conversion := some Config.conversionTime }
  head := .reset none false
  fmt := .reset
  format := .reset
  tone := .reset
  signal := .reset
  monitor := { Monitor.reset with window := some Config.windowTime }
  conn := .reset
  router := .reset
  keys := { Keys.reset with slot := some Config.slotTime }

end Sys2Proof.Machine
end

