-- ==== Sys2Proof/Machine/Flags.lean ====
section
/-!
DEFINITION. The condition latches, the report flags, the counters and the timers: what almost every block sets.
-/

namespace Sys2Proof.Machine

/-! ### Counters and timers -/

/-- R193: a saturating counter counts up by one and holds at 65535. -/
def countUp (n : Nat) : Nat := min (n + 1) Config.counterMax

/-- R193: a saturating counter counts up by `k` events. -/
def countUpBy (k n : Nat) : Nat := min (n + k) Config.counterMax

/-- The moment reached when `dt` µs have passed (log 2). -/
def after (dt : Micros) (s : State) : State := { s with now := s.now + dt }

/-- The moment at which a timer that ends at `due` ends; a moment already past is not gone back to (log 2, log 21). -/
def atMoment (due : Micros) (s : State) : State := { s with now := max s.now due }

/-- The event at the end of a timer: nothing while the timer is stopped (log 3), else what `f` says at that moment. -/
def onExpiry (t : Timer) (f : State → State) (s : State) : State :=
  match t with
  | none => s
  | some due => f (atMoment due s)

/-- R194: while a reset is in progress every block is held, and nothing but the reset's own events happens (log 15). -/
def unlessHeld (f : State → State) (s : State) : Host.Outcome State Fault Refusal :=
  if s.resetting.isSome then .next s else .next (f s)

/-! ### The condition latches (R191) -/

/-- The sixteen latches. -/
inductive Latch where
  | restarted | connectFailed | carrierDropped | carrierFaded | rxOverrun | rxError | breakSeen | holdExpired
  | keyLost | topClamp | formatUnderflow | paperOut | headHot | supplyStarved | batteryLow | linkTorn
  deriving DecidableEq, Repr

/-- R189: the latch's bit of the latch mask. -/
def Latch.bit : Latch → Nat
  | .restarted => 0
  | .connectFailed => 1
  | .carrierDropped => 2
  | .carrierFaded => 3
  | .rxOverrun => 4
  | .rxError => 5
  | .breakSeen => 6
  | .holdExpired => 7
  | .keyLost => 8
  | .topClamp => 9
  | .formatUnderflow => 10
  | .paperOut => 11
  | .headHot => 12
  | .supplyStarved => 13
  | .batteryLow => 14
  | .linkTorn => 15

/-- Whether a latch is set. -/
def LinkPort.isSet (k : LinkPort) (l : Latch) : Bool := k.latches.getLsbD l.bit

/-- R191: a latch that is clear becomes set and makes a CONDITION report pending if that kind is enabled; a latch already
set stays set and nothing else changes. -/
def LinkPort.setLatch (l : Latch) (k : LinkPort) : LinkPort :=
  if k.isSet l then k
  else { k with
    latches := k.latches ||| BitVec.twoPow 16 l.bit
    pendCondition := k.pendCondition || k.mask.condition }

/-- R191, on the whole part. -/
def setLatch (l : Latch) (s : State) : State := { s with link := s.link.setLatch l }

/-- R191, where the event may or may not fall. -/
def setLatchIf (b : Bool) (l : Latch) (s : State) : State :=
  { s with link := if b then s.link.setLatch l else s.link }

/-! ### The report flags (R184) -/

/-- R184: a LINE STATE report becomes pending while its kind is enabled. -/
def LinkPort.pendLine (k : LinkPort) : LinkPort :=
  { k with pendLineState := k.pendLineState || k.mask.lineState }

/-- R184, on the whole part. -/
def pendLineState (s : State) : State := { s with link := s.link.pendLine }

/-- R184: a SPACE report becomes pending while its kind is enabled. -/
def LinkPort.pendRoom (k : LinkPort) : LinkPort :=
  { k with pendSpace := k.pendSpace || k.mask.space }

/-- R185: the RXDATA report is pending whenever its queue holds an entry and its kind is enabled. -/
def rxDataPending (s : State) : Bool := s.link.mask.rxData && !s.router.rxData.isEmpty

/-- R185: the KEYDATA report likewise. -/
def keyDataPending (s : State) : Bool := s.link.mask.keyData && !s.router.keyData.isEmpty

/-- R182: LRDY is high while the reply queue holds fewer than 4 replies, no RESTART is owed its reset and no reset is in
progress. -/
def lrdy (s : State) : Bool :=
  decide (s.link.replies.length < Config.replyCap) && !s.link.restartOwed && s.resetting.isNone

end Sys2Proof.Machine
end

