-- ==== Sys2Proof/Machine/Supply.lean ====
section
/-!
DEFINITION. The Supply Monitor's arithmetic: derived quantities, the ceiling current, the reservations, the phase limit, the
strobe widths, and the indications (R24 to R45).
-/

namespace Sys2Proof.Machine

/-! ### Derived quantities (R26) and the ceiling current (R33) -/

/-- R26: the battery voltage in mV. -/
def millivolts (code : Byte) : Nat := code.toNat * 40

/-- R26: the head temperature in °C. -/
def celsius (code : Byte) : Int := 90 - ((code.toNat * 100 / 255 : Nat) : Int)

/-- R33: the ceiling current in mA at `v` mV. -/
def ceilingCurrent (v : Nat) : Nat :=
  if 7000 ≤ v then 2400
  else if 5800 ≤ v then 800 + (v - 5800) * 4 / 3
  else if 5400 ≤ v then 400 + (v - 5400)
  else 0

/-- R25, R33: I_max, 0 while the battery reading is invalid. -/
def iMax (s : State) : Nat := if s.supply.battery.valid then ceilingCurrent (millivolts s.supply.battery.code) else 0

/-! ### Reservations (R34) -/

/-- R34, R95, R130: the transmit carrier is on. -/
def carrierOn (c : Conn) : Bool :=
  match c.state with
  | .answering | .settle | .online | .fade | .clearing => true
  | .test => decide (c.loop = .localTone)
  | .idle | .waitAnswer => false

/-- R34: the Connection Controller's declaration, in mA. -/
def carrierReserve (s : State) : Nat := if carrierOn s.conn then 60 else 0

/-- R7, R34: the Head Driver's declaration, in mA. -/
def motorReserve (m : Motor) : Nat :=
  match m with
  | .released => 0
  | .energizing | .held => 120
  | .stepping => 350

/-- R34: the total reserved. -/
def reserved (s : State) : Nat := carrierReserve s + motorReserve s.head.motor

/-- R35: the step headroom test. -/
def stepHeadroom (s : State) : Bool := decide ((if carrierOn s.conn then 410 else 350) ≤ iMax s)

/-! ### The phase limit (R37) -/

/-- R1: the resistance of a dot, in Ω. -/
def HeadClass.ohms : HeadClass → Nat
  | .a => 120 | .b => 150 | .c => 180 | .d => 220

/-- R1: the base width at 25 °C and 7200 mV, in µs. -/
def HeadClass.baseWidth : HeadClass → Nat
  | .a => 700 | .b => 850 | .c => 1000 | .d => 1200

/-- R37, stage 1. -/
def clampedVoltage (v : Nat) : Nat := max 5400 (min 9000 v)

/-- R37, stage 2: the per-dot current, rounded up. -/
def dotCurrent (cls : HeadClass) (v : Nat) : Nat := (clampedVoltage v + cls.ohms - 1) / cls.ohms

/-- R37, stage 3: what the reservations leave of the ceiling current. -/
def freeCurrent (ceiling : Nat) (carrier : Bool) : Nat := ceiling - (if carrier then 180 else 120)

/-- R37, stage 4: the phase limit N. -/
def phaseLimit (cfg : HeadConfig) (ceiling v : Nat) (carrier : Bool) : Nat :=
  min (freeCurrent ceiling carrier / dotCurrent cfg.cls v) cfg.maxDots

/-! ### The strobe widths (R39, R40) -/

/-- R39, stages 1 and 2: the temperature factor kT = 100 - (Tc - 25), Tc the temperature clamped to -10 to 70 °C. -/
def temperatureFactor (t : Int) : Nat := (125 - max (-10) (min 70 t)).toNat

/-- R39, stage 6: the density factor kD. -/
def densityFactor (d : Int) : Nat := (100 + 6 * d).toNat

/-- R39: the cold width. -/
def coldWidth (cfg : HeadConfig) (v : Nat) (t density : Int) (boosted : Bool) : Micros :=
  let a1 := cfg.cls.baseWidth * temperatureFactor t / 100
  let a2 := a1 * 7200 / clampedVoltage v
  let a3 := a2 * 7200 / clampedVoltage v
  let a4 := a3 * densityFactor density / 100
  let a5 := if boosted then a4 * 112 / 100 else a4
  max 100 (min cfg.maxWidth a5)

/-- R40: the hot width. -/
def hotWidth (cold ratio : Nat) : Micros := max 100 (cold * ratio / 100)

/-- R36: what the Supply Monitor answers at a phase start, the indications apart. -/
structure Figures where
  limit : Nat
  cold : Micros
  hot : Micros
  deriving DecidableEq, Repr

/-- R37: N from the readings as they stand. -/
def limitNow (cfg : HeadConfig) (s : State) : Nat :=
  phaseLimit cfg (iMax s) (millivolts s.supply.battery.code) (carrierOn s.conn)

/-- R36: the answer at a phase start, with the boost row count taken as `boostRows` (R10). -/
def figures (cfg : HeadConfig) (boostRows : Nat) (s : State) : Figures :=
  let cold := coldWidth cfg (millivolts s.supply.battery.code) (celsius s.supply.temp.code) s.supply.density
    (s.supply.boost && decide (0 < boostRows))
  { limit := limitNow cfg s, cold := cold, hot := hotWidth cold s.supply.hotRatio }

/-- R30: a phase start is starved when N is less than 4. -/
def limitStarved (n : Nat) : Bool := decide (n < 4)

/-- R30: the outcome of a judgement of a start; the latch sets when STARVED goes from clear to set. -/
def judgeStarved (starved : Bool) (s : State) : State :=
  { s with
    supply := { s.supply with starved := starved }
    link := if starved && !s.supply.starved then s.link.setLatch .supplyStarved else s.link }

/-- R36: N and the widths are recorded as the last figures given. -/
def recordFigures (f : Figures) (s : State) : State :=
  { s with supply := { s.supply with lastLimit := f.limit, lastCold := f.cold, lastHot := f.hot } }

/-! ### The judgements at a reading (R28, R29) -/

/-- R28: HOT after a temperature reading of `t` °C. -/
def hotAfter (hot : Bool) (t : Int) : Bool := if hot then !decide (t ≤ 55) else decide (65 ≤ t)

/-- R29: BATTERY LOW and its count after a battery reading of `v` mV. -/
def lowAfter (low : Bool) (count v : Nat) : Bool × Nat :=
  let qualifies := if low then decide (5800 ≤ v) else decide (v < 5400)
  if qualifies then (if 2 ≤ count + 1 then (!low, 0) else (low, count + 1)) else (low, 0)

/-- R24: the channel converted after this one. -/
def Channel.next : Channel → Channel
  | .battery => .temp | .temp => .level | .level => .battery

/-- R24, R26, R28: a temperature reading. -/
def readTemp (code : Byte) (s : State) : State :=
  let hot := hotAfter s.supply.hot (celsius code)
  { s with
    supply := { s.supply with temp := { code := code, valid := true }, hot := hot }
    link := if hot && !s.supply.hot then s.link.setLatch .headHot else s.link }

/-- R24, R26, R29, R33: a battery reading. -/
def readBattery (code : Byte) (s : State) : State :=
  let (low, count) := lowAfter s.supply.batteryLow s.supply.lowCount (millivolts code)
  { s with
    supply := { s.supply with battery := { code := code, valid := true }, batteryLow := low, lowCount := count }
    link := if low && !s.supply.batteryLow then s.link.setLatch .batteryLow else s.link }

/-- R24, R27: a level reading. -/
def readLevel (code : Byte) (s : State) : State :=
  { s with supply := { s.supply with level := { code := code, valid := true } } }

end Sys2Proof.Machine
end

