-- ==== Sys2Proof/Machine/Head.lean ====
section
/-!
DEFINITION. The Head Driver: row cycles, phase starts, step starts, pauses and resumption (R3 to R21).
-/

namespace Sys2Proof.Machine

/-! ### Rows -/

/-- R11: the dots of the row not yet burned that are of the cold class under the split `hot`. -/
def BurnRow.coldLeft (r : BurnRow) (hot : List Nat) : List Nat :=
  r.marked.filter fun d => !hot.contains d && !r.burned.contains d

/-- R11: the dots of the row not yet burned that are of the hot class under the split `hot`. -/
def BurnRow.hotLeft (r : BurnRow) (hot : List Nat) : List Nat :=
  r.marked.filter fun d => hot.contains d && !r.burned.contains d

/-- R12: the row's marked dots not yet burned. -/
def BurnRow.unburned (r : BurnRow) : List Nat := r.marked.filter fun d => !r.burned.contains d

/-- R38: the current class is cold while any cold dot is unburned. -/
def BurnRow.inCold (r : BurnRow) (hot : List Nat) : Bool := !(r.coldLeft hot).isEmpty

/-- R38: the dots of a phase: the unburned dots of the current class from the lowest position, as many as N allows. -/
def BurnRow.pack (r : BurnRow) (hot : List Nat) (limit : Nat) : List Nat :=
  (if r.inCold hot then r.coldLeft hot else r.hotLeft hot).take limit

/-- R4: the record a row queue entry begins as. -/
def RowEntry.record : RowEntry → CurrentRow
  | .burn dots => .burn { marked := dots, hot := none, burned := [], next := .phase }
  | .feed n => .feed n n

/-- R11: the time since the last pulse end is 5 s or more. -/
def restedLong (s : State) : Bool :=
  match s.head.lastPulse with
  | none => true
  | some t => decide (Config.restTime ≤ s.now - t)

/-- R11: the time since the last pulse end is 50 ms or less. -/
def pulsedLately (s : State) : Bool :=
  match s.head.lastPulse with
  | none => false
  | some t => decide (s.now - t ≤ Config.hotGap)

/-- R11: the row's hot dots at its first phase that proceeds. -/
def splitHot (marked : List Nat) (s : State) : List Nat :=
  if pulsedLately s then marked.filter s.head.history.contains else []

/-! ### Pauses -/

/-- R18: some reason stands. -/
def Reasons.any (r : Reasons) : Bool := r.hot || r.starved || r.batteryLow || r.noPaper

/-- R18, R9: the driver enters PAUSED with its reasons; if the motor is HELD the hold timer starts. -/
def enterPaused (r : Reasons) (s : State) : State :=
  { s with head := { s.head with
      state := .paused
      reasons := r
      waiting := false
      hold := if s.head.motor = .held then some (s.now + Config.holdTime) else s.head.hold } }

/-! ### Starts -/

/-- R10, R14: the start waits, and the driver stays in its present state. -/
def waitStart (s : State) : State := { s with head := { s.head with waiting := true } }

/-- R11, R12: the phase that proceeds is loaded: the split is made or kept, boost is armed after a long rest, and the
phase's dots are shifted in for 80 µs. -/
def loadPhase (r : BurnRow) (boostRows : Nat) (f : Figures) (s : State) : State :=
  let hot := r.hot.getD (splitHot r.marked s)
  { s with head := { s.head with
      state := .burning
      reasons := .none
      waiting := false
      row := some (.burn { r with hot := some hot })
      boostRows := boostRows
      phase := some { dots := r.pack hot f.limit
                      width := if r.inCold hot then f.cold else f.hot
                      loading := true
                      due := s.now + Config.loadTime } } }

/-- R10: the boost row count a phase start is answered with. -/
def boostAtStart (r : BurnRow) (s : State) : Nat :=
  if r.hot.isNone && restedLong s then 2 else s.head.boostRows

/-- R10: the reasons that refuse a phase start whose limit is `limit`. -/
def phaseRefusal (limit : Nat) (s : State) : Reasons :=
  { hot := s.supply.hot, starved := limitStarved limit, batteryLow := s.supply.batteryLow, noPaper := false }

/-- R10: a phase start of the BURN row `r` under the configuration `cfg`. -/
def phaseStart (cfg : HeadConfig) (r : BurnRow) (s : State) : State :=
  if s.supply.battery.valid && s.supply.temp.valid then
    let f := figures cfg (boostAtStart r s) s
    let s1 := judgeStarved (limitStarved f.limit) (recordFigures f s)
    let why := phaseRefusal f.limit s
    if why.any then enterPaused why s1 else loadPhase r (boostAtStart r s) f s1
  else waitStart s

/-- R14: the reasons that refuse a step start. -/
def stepRefusal (s : State) : Reasons :=
  { hot := false, starved := !stepHeadroom s, batteryLow := false, noPaper := !s.head.paper }

/-- R15, R16: a step begins; a FEED's step empties the dot history. -/
def beginStep (ofFeed : Bool) (s : State) : State :=
  { s with head := { s.head with
      state := .stepping
      reasons := .none
      waiting := false
      position := (s.head.position + 1) % 4
      motor := .stepping
      step := some (s.now + Config.stepTime)
      history := if ofFeed then [] else s.head.history } }

/-- R14: a step start. -/
def stepStart (ofFeed : Bool) (s : State) : State :=
  if s.supply.battery.valid then
    let why := stepRefusal s
    let s1 := setLatchIf why.noPaper .paperOut (judgeStarved why.starved s)
    if why.any then enterPaused why s1 else beginStep ofFeed s1
  else waitStart s

/-! ### Row cycles -/

/-- R8: the driver enters ENERGIZING. -/
def enterEnergizing (s : State) : State :=
  { s with head := { s.head with
      state := .energizing
      reasons := .none
      waiting := false
      hold := none
      motor := .energizing
      energize := some (s.now + Config.energizeTime) } }

/-- R6, R17: the driver, with the motor HELD, makes the start of its row: SETTLING first when a BURN row's first phase start
falls in the settle period. For a phase start it enters BURNING and then makes it, in R6's order, so that a phase start that
must wait for a reading (R10) waits in BURNING; a step start that must wait leaves the state as it finds it (log 11). -/
def proceed (s : State) : State :=
  match s.head.row with
  | some (.burn r) =>
    match r.next with
    | .phase =>
      if r.hot.isNone && s.head.settle.isSome then
        { s with head := { s.head with state := .settling, reasons := .none, waiting := false, hold := none } }
      else
        match s.head.config with
        | some cfg =>
          phaseStart cfg r { s with head := { s.head with state := .burning, reasons := .none, hold := none } }
        | none => s
    | .step => stepStart false { s with head := { s.head with hold := none } }
  | some (.feed _ _) => stepStart true { s with head := { s.head with hold := none } }
  | none => s

/-- R6, R21: the driver looks at the motor before it makes its next start. -/
def approach (s : State) : State :=
  if s.head.motor = .released then enterEnergizing s else proceed s

/-- R4, R6: the driver takes the oldest entry and begins a row cycle; with an empty queue it does nothing. -/
def beginRow (s : State) : State :=
  match s.head.queue with
  | [] => s
  | e :: rest => approach { s with head := { s.head with queue := rest, row := some e.record } }

/-- R4, R9: a row cycle ends. -/
def endRow (s : State) : State :=
  match s.head.queue with
  | [] => { s with head := { s.head with
              state := .idle, row := none, hold := some (s.now + Config.holdTime) } }
  | _ :: _ => beginRow { s with head := { s.head with row := none } }

/-- R3: entries join the newest end of the row queue; a driver that is IDLE begins a row cycle at once. A driver whose start
still waits for a first reading has a row in hand (log 11). -/
def appendEntries (es : List RowEntry) (s : State) : State :=
  let s1 := { s with head := { s.head with queue := s.head.queue ++ es } }
  if s.head.state = .idle ∧ s.head.waiting = false then beginRow s1 else s1

/-- R3, R51: the free entries of the row queue. -/
def rowsFree (s : State) : Nat := Config.rowQueueCap - s.head.queue.length

/-! ### The ends of pulses and steps -/

/-- R12: the phase's dots join the row's burned set at the pulse end. -/
def BurnRow.burnedBy (r : BurnRow) (dots : List Nat) : BurnRow := { r with burned := r.burned ++ dots }

/-- R13: the row is complete: the history becomes its marked set, the boost count falls, the row is counted, and its step
start is made. -/
def completeRow (r : BurnRow) (s : State) : State :=
  stepStart false { s with head := { s.head with
    row := some (.burn { r with next := .step })
    history := r.marked
    boostRows := s.head.boostRows - 1
    rowsBurned := countUp s.head.rowsBurned } }

/-- R12: a pulse ends that a reset has not cut. -/
def endPulse (p : Phase) (s : State) : State :=
  let s1 := { s with head := { s.head with
    phase := none
    lastPulse := some s.now
    phasesBurned := countUp s.head.phasesBurned } }
  match s.head.row with
  | some (.burn r) =>
    let r1 := r.burnedBy p.dots
    let s2 := { s1 with head := { s1.head with row := some (.burn r1) } }
    if r1.unburned = [] then completeRow r1 s2
    else match s.head.config with
      | some cfg => phaseStart cfg r1 s2
      | none => s2
  | _ => s1

/-- R12: the load ends, and the strobe lines are asserted for the phase's width. -/
def endLoading (p : Phase) (s : State) : State :=
  { s with head := { s.head with phase := some { p with loading := false, due := s.now + p.width } } }

/-- R17: the settle period a finished FEED of `count` rows leaves. -/
def settleAfter (count : Nat) (s : State) : Timer :=
  if 2 ≤ count then some (s.now + Config.settleTime) else s.head.settle

/-- R15: a step ends. -/
def endStep (s : State) : State :=
  let s1 := { s with head := { s.head with step := none, motor := .held } }
  match s.head.row with
  | some (.burn _) => endRow s1
  | some (.feed count left) =>
    if left ≤ 1 then endRow { s1 with head := { s1.head with settle := settleAfter count s } }
    else stepStart true { s1 with head := { s1.head with row := some (.feed count (left - 1)) } }
  | none => s1

/-- R8: the energizing timer expires. -/
def endEnergizing (s : State) : State :=
  proceed { s with head := { s.head with energize := none, motor := .held } }

/-- R9: the hold timer expires. -/
def endHold (s : State) : State := { s with head := { s.head with hold := none, motor := .released } }

/-- R17: the settle period ends, and a driver in SETTLING makes its first phase start. -/
def endSettle (s : State) : State :=
  let s1 := { s with head := { s.head with settle := none } }
  if s.head.state = .settling then proceed s1 else s1

/-! ### Reasons removed, and resumption (R19, R21) -/

/-- R21: the driver resumes. -/
def resume (s : State) : State := approach { s with head := { s.head with reasons := .none, hold := none } }

/-- R19, R21: the reasons `gone` are removed from a pause; when the last has gone the driver resumes. -/
def removeReasons (gone : Reasons) (s : State) : State :=
  if s.head.state = .paused then
    let left : Reasons :=
      { hot := s.head.reasons.hot && !gone.hot
        starved := s.head.reasons.starved && !gone.starved
        batteryLow := s.head.reasons.batteryLow && !gone.batteryLow
        noPaper := s.head.reasons.noPaper && !gone.noPaper }
    if s.head.reasons.any && !left.any then resume s
    else { s with head := { s.head with reasons := left } }
  else s

/-- R31: the refused start is a step start. -/
def refusedStep (s : State) : Bool :=
  match s.head.row with
  | some (.burn r) => decide (r.next = .step)
  | some (.feed _ _) => true
  | none => false

/-- R31: a battery reading during a pause with STARVED judges the refused start afresh. A phase start's N is recorded. -/
def rejudge (s : State) : State :=
  if s.head.state = .paused && s.head.reasons.starved then
    if refusedStep s then judgeStarved (!stepHeadroom s) s
    else match s.head.config with
      | some cfg =>
        judgeStarved (limitStarved (limitNow cfg s))
          { s with supply := { s.supply with lastLimit := limitNow cfg s } }
      | none => s
  else s

/-- R10, R14: a start that waited for a first reading is made again. -/
def retryStart (s : State) : State := if s.head.waiting then proceed s else s

/-- R19, R31: what a battery reading does for the driver. `was` is BATTERY LOW before the reading. -/
def afterBattery (was : Bool) (s : State) : State :=
  let s1 := rejudge s
  removeReasons { hot := false, starved := s.head.reasons.starved && !s1.supply.starved
                  batteryLow := was && !s1.supply.batteryLow, noPaper := false } s1

/-- R19: what a temperature reading does for the driver. `was` is HOT before the reading. -/
def afterTemp (was : Bool) (s : State) : State :=
  removeReasons { hot := was && !s.supply.hot, starved := false, batteryLow := false, noPaper := false } s

/-- R24: the end of a conversion. -/
def endConversion (code : Byte) (s : State) : State :=
  let s0 := { s with supply := { s.supply with
    channel := s.supply.channel.next, conversion := some (s.now + Config.conversionTime) } }
  match s.supply.channel with
  | .battery => retryStart (afterBattery s.supply.batteryLow (readBattery code s0))
  | .temp => retryStart (afterTemp s.supply.hot (readTemp code s0))
  | .level => readLevel code s0

/-! ### The paper sensor (R20) -/

/-- R20: the PAPER input changes. -/
def changePaper (s : State) : State :=
  { s with head := { s.head with
      paper := !s.head.paper
      paperTimer := if s.head.paper then none else some (s.now + Config.paperTime) } }

/-- R20: the paper has read present for 1 s. -/
def endPaperTimer (s : State) : State :=
  removeReasons { hot := false, starved := false, batteryLow := false, noPaper := true }
    { s with head := { s.head with paperTimer := none } }

end Sys2Proof.Machine
end

