-- ==== Sys2Proof/Machine/Glyphs.lean ====
section
/-!
DEFINITION. Glyph patterns and rasterization: from the codes of a line's cells to BURN and FEED entries (R75 to R79).
-/

namespace Sys2Proof.Machine

/-! ### The ROM font (R75; log 9) -/

/-- R75: the codes whose marks keep within glyph rows 1 to 7: capitals, digits, and every punctuation mark and letter that
the rule does not name as reaching further (log 9). -/
def romTopRow (code : Nat) : Bool :=
  [0x27, 0x22, 0x5E, 0x60, 0x28, 0x29, 0x5B, 0x5D].contains code

/-- R75: the codes with a descender or a tail in glyph rows 8 and 9. -/
def romLowRows (code : Nat) : Bool :=
  [0x67, 0x6A, 0x70, 0x71, 0x79, 0x2C, 0x3B].contains code

/-- R75: glyph rows in which a ROM code may mark a place. -/
def romRowOpen (code row : Nat) : Bool :=
  decide (1 ≤ row ∧ row ≤ 7) || (romTopRow code && row == 0) || (romLowRows code && (row == 8 || row == 9))

/-- R75: the row of the place that the rule says is marked: the row the code is named for, or one of rows 1 to 7. -/
def romSureRow (code : Nat) : Nat :=
  let n := Config.romSurePlace code
  if romTopRow code then 0 else if romLowRows code then 8 + n / 7 % 2 else 1 + n / 7 % 7

/-- R75: its column, 0 to 6. -/
def romSureColumn (code : Nat) : Nat := Config.romSurePlace code % 7

/-- R75: the checkerboard error glyph's row: column c is marked when c is 6 or less and row + c is even. -/
def checkerRow (row : Nat) : Byte := if row % 2 = 0 then 0xAA else 0x54

/-- R75: the pattern of a ROM code in a glyph row, glyph column 0 in the highest bit. 20h marks nothing and 7Fh is the
checkerboard. The other patterns are free within the rule: column 7 is unmarked, no place outside the open rows is marked,
and at least one place is. -/
def romRow (code row : Nat) : Byte :=
  if code = 0x20 then 0
  else if code = 0x7F then checkerRow row
  else
    let free := if romRowOpen code row then Config.romMarks code row &&& 0xFE else 0
    if row = romSureRow code then free ||| BitVec.twoPow 8 (7 - romSureColumn code) else free

/-- R75, R76: the pattern row of a printable code: ROM for 20h to 7Fh, soft for 80h to 8Fh. -/
def glyphRow (soft : List (List Byte)) (code : Byte) (row : Nat) : Byte :=
  if code.toNat < 0x80 then romRow code.toNat row
  else ((soft.getD (code.toNat - 0x80) []).getD row 0)

/-! ### From cells to dots (R78, R79) -/

/-- R78: the glyph column that dot `j` of a cell shows. -/
def Wide.column (w : Wide) (j : Nat) : Nat :=
  match w with
  | .none => j
  | .leftHalf => j / 2
  | .rightHalf => 4 + j / 2

/-- R78: a cell marks its dot `j` in glyph row `row`. -/
def cellMarks (soft : List (List Byte)) (cell : Cell) (row j : Nat) : Bool :=
  cell.codes.any fun code => (glyphRow soft code row).getLsbD (7 - cell.wide.column j)

/-- R79: dot row `row` of a line: the dots its forty cells contribute, in ascending order. -/
def dotRow (soft : List (List Byte)) (line : Line) (row : Nat) : List Nat :=
  if row < 10 then
    (List.range 320).filter fun p =>
      match line.cells[p / 8]? with
      | some cell => cellMarks soft cell row (p % 8)
      | none => false
  else []

/-- R79: the entries of a line's dot rows, with `blank` rows without a dot gone before. -/
def packRows (blank : Nat) : List (List Nat) → List RowEntry
  | [] => if blank = 0 then [] else [.feed blank]
  | [] :: rest => packRows (blank + 1) rest
  | (d :: ds) :: rest =>
    (if blank = 0 then [] else [.feed blank]) ++ .burn (d :: ds) :: packRows 0 rest

/-- R79: rasterizing a committed line. -/
def rasterize (soft : List (List Byte)) (line : Line) : List RowEntry :=
  packRows 0 ((List.range 12).map (dotRow soft line))

end Sys2Proof.Machine
end

