-- ==== Sys2Proof/Machine/Window.lean ====
section
/-!
DEFINITION. The Print Formatter: the line window, printable and control codes, commit, drains, and the print directives
(R46 to R74, R80 to R91).
-/

namespace Sys2Proof.Machine

/-! ### The window -/

/-- R53: the cursor line. -/
def Formatter.cursor (f : Formatter) : Line := (f.window[f.cursorLine]?).getD .fresh

/-- R47: the cursor line is the newest. -/
def Formatter.atNewest (f : Formatter) : Bool := decide (f.window.length ≤ f.cursorLine + 1)

/-- R61: the cursor line carries the continuation flag and has no ink, so a line advance is absorbed. -/
def Formatter.absorbs (f : Formatter) : Bool := f.cursor.continuation && !f.cursor.ink

/-- The cursor line replaced. -/
def Formatter.setCursor (f : Formatter) (l : Line) : Formatter := { f with window := f.window.set f.cursorLine l }

/-- R71: some open line has ink. -/
def Formatter.anyInk (f : Formatter) : Bool := f.window.any Line.ink

/-- R52, R91: a commit that appends rows moves the form line counter. -/
def Formatter.nextCounter (f : Formatter) : Nat :=
  if f.formLength = 0 then min 255 (f.formCounter + 1) else (f.formCounter + 1) % f.formLength

/-- R52: a column clamped into the margins. -/
def Layout.clampColumn (l : Layout) (c : Nat) : Nat := max l.left (min l.right c)

/-! ### Commit (R69) -/

/-- R69: the formatter's side of committing the oldest line: it leaves the window, and a fresh line takes the place of an
only line. -/
def Formatter.dropOldest (f : Formatter) (line : Line) : Formatter :=
  { f with
    window := if f.window.tail = [] then [.fresh] else f.window.tail
    cursorLine := f.cursorLine - 1
    formCounter := if line.continuation then f.formCounter else f.nextCounter }

/-- R69: the entries a committed line appends; a continuation line appends none. -/
def Formatter.entriesOf (f : Formatter) (line : Line) : List RowEntry :=
  if line.continuation then [] else rasterize f.soft line

/-- R69: the oldest line is committed and its entries join the row queue. -/
def commitOldest (s : State) : State :=
  match s.fmt.window with
  | [] => s
  | line :: _ => appendEntries (s.fmt.entriesOf line) { s with fmt := s.fmt.dropOldest line }

/-! ### Line advance (R61, R62) -/

/-- R61: a new line is opened at the newest end, and the cursor moves to it. -/
def Formatter.openLine (f : Formatter) : Formatter :=
  { f with window := f.window ++ [.fresh], cursorLine := f.window.length }

/-- R61. -/
def lineAdvance (s : State) : State :=
  if s.fmt.absorbs then { s with fmt := s.fmt.setCursor { s.fmt.cursor with continuation := false } }
  else if !s.fmt.atNewest then { s with fmt := { s.fmt with cursorLine := s.fmt.cursorLine + 1 } }
  else if s.fmt.window.length < Config.windowCap then { s with fmt := s.fmt.openLine }
  else
    let s1 := commitOldest s
    { s1 with fmt := s1.fmt.openLine }

/-- R59: the column goes to the left margin. -/
def carriageReturn (s : State) : State := { s with fmt := { s.fmt with column := s.fmt.layout.left } }

/-- R62. -/
def newLine (s : State) : State := lineAdvance (carriageReturn s)

/-! ### Printable codes (R55 to R58) -/

/-- R55: a code 90h to FFh is placed as 7Fh. -/
def placedCode (c : Byte) : Byte := if 0x90 ≤ c.toNat then 0x7F else c

/-- R55: printable codes are 20h and above. -/
def isPrintable (c : Byte) : Bool := decide (0x20 ≤ c.toNat)

/-- R56: the code fits inside the right margin. -/
def Formatter.fits (f : Formatter) : Bool :=
  decide (if f.layout.double then f.column + 1 ≤ f.layout.right else f.column ≤ f.layout.right)

/-- R57: a code added to a cell's list. -/
def addCode (code : Byte) (codes : List Byte) : List Byte :=
  if codes.contains code then codes
  else if codes.length < 3 then codes ++ [code]
  else codes.take 2 ++ [code]

/-- R57, R58: a code added to a cell that is to carry the mark `wide`. -/
def Cell.place (wide : Wide) (code : Byte) (cell : Cell) : Cell :=
  { codes := addCode code (if cell.wide = wide then cell.codes else []), wide := wide }

/-- A code placed in the cell at a column of a line. -/
def Line.placeAt (l : Line) (column : Nat) (wide : Wide) (code : Byte) : Line :=
  { l with cells := l.cells.modify column (Cell.place wide code) }

/-- R55: placing a code other than 20h sets the ink flag and clears the continuation flag. -/
def Line.inked (l : Line) (code : Byte) : Line :=
  if code = 0x20 then l else { l with ink := true, continuation := false }

/-- R57, R58: the code is placed at the cursor and the column advances by 1 or 2. -/
def Formatter.place (f : Formatter) (code : Byte) : Formatter :=
  let l := f.cursor
  if f.layout.double then
    { f.setCursor (((l.placeAt f.column .leftHalf code).placeAt (f.column + 1) .rightHalf code).inked code) with
      column := f.column + 2 }
  else
    { f.setCursor ((l.placeAt f.column .none code).inked code) with column := f.column + 1 }

/-- R56: the last position in which a code can be placed with wrap off. -/
def Layout.lastColumn (l : Layout) : Nat := if l.double then l.right - 1 else l.right

/-- R56: what is done before a printable code is placed. -/
def makeFit (s : State) : State :=
  if s.fmt.fits then s
  else if s.fmt.layout.wrap then newLine s
  else { s with fmt := { s.fmt with column := s.fmt.layout.lastColumn } }

/-- R55 to R58: a printable code. -/
def putPrintable (c : Byte) (s : State) : State :=
  let s1 := makeFit s
  { s1 with fmt := s1.fmt.place (placedCode c) }

/-! ### Control codes (R59 to R68) -/

/-- R59: BS. -/
def Formatter.backspace (f : Formatter) : Formatter := { f with column := max f.layout.left (f.column - 1) }

/-- R60: HT. -/
def Formatter.tab (f : Formatter) : Formatter :=
  { f with column :=
      ((f.layout.tabs.find? fun t => decide (f.column < t ∧ t ≤ f.layout.right)).getD f.layout.right) }

/-- R63: VT. -/
def verticalTab (s : State) : State :=
  if s.fmt.cursorLine = 0 then setLatch .topClamp s
  else { s with fmt := { s.fmt with cursorLine := s.fmt.cursorLine - 1 } }

/-- R66: SO and SI. -/
def Formatter.setDouble (on : Bool) (f : Formatter) : Formatter :=
  { f with layout := { f.layout with double := on } }

/-- R67: code 12h. -/
def Formatter.setMark (f : Formatter) : Formatter :=
  { f with layout := { f.layout with mark := min 39 f.column } }

/-- R67: code 1Dh. -/
def Formatter.exchange (f : Formatter) : Formatter :=
  { f with column := f.layout.clampColumn f.layout.mark, layout := { f.layout with mark := min 39 f.column } }

/-- R151: the beeper made to sound, or to sound on, at the moment `t` with the end time `due`: a silent one begins its wave at
`t`, and the wave of one that sounds goes on without a break. -/
def Beep.sound (t due : Micros) (b : Option Beep) : Beep := { since := (b.map Beep.since).getD t, due := due }

/-- R65, R151: a beep of 150 ms from the request. -/
def soundBeep (s : State) : State :=
  { s with keys := { s.keys with beeper := some (Beep.sound s.now (s.now + Config.beepTime) s.keys.beeper) } }

/-- R64: FF with the form length above 0 begins a drain. -/
def beginDrain (d : Drain) (s : State) : State :=
  { s with fmt := { s.fmt with activity := .draining d, lapse := none, flush := none } }

/-- R64. -/
def formFeed (s : State) : State :=
  if s.fmt.formLength = 0 then newLine s else beginDrain (.formFeed none) s

/-- R55 to R68: a character is carried out. -/
def carryChar (c : Byte) (s : State) : State :=
  if isPrintable c then putPrintable c s
  else if c = 0x0D then carriageReturn s
  else if c = 0x0A then lineAdvance s
  else if c = 0x1E then newLine s
  else if c = 0x0B then verticalTab s
  else if c = 0x08 then { s with fmt := s.fmt.backspace }
  else if c = 0x09 then { s with fmt := s.fmt.tab }
  else if c = 0x0C then formFeed s
  else if c = 0x07 then soundBeep s
  else if c = 0x0E then { s with fmt := s.fmt.setDouble true }
  else if c = 0x0F then { s with fmt := s.fmt.setDouble false }
  else if c = 0x12 then { s with fmt := s.fmt.setMark }
  else if c = 0x1D then { s with fmt := s.fmt.exchange }
  else s

/-! ### Directives (R86 to R90) -/

/-- R86: the margins a SET FORMAT record leaves. -/
def newMargins (fields : FormatFields) (l : Layout) : Nat × Nat :=
  match fields.left, fields.right with
  | some a, some b => (a, b)
  | some a, none => (if a < l.right then a else l.right - 1, l.right)
  | none, some b => (l.left, if l.left < b then b else l.left + 1)
  | none, none => (l.left, l.right)

/-- R86: a SET FORMAT record is carried out. -/
def Formatter.setFormat (fields : FormatFields) (f : Formatter) : Formatter :=
  let (left, right) := newMargins fields f.layout
  let layout : Layout :=
    { left := left
      right := right
      wrap := fields.wrap.getD f.layout.wrap
      double := fields.double.getD f.layout.double
      mark := fields.mark.getD f.layout.mark
      tabs := fields.tabs.getD f.layout.tabs }
  { f with
    layout := layout
    column := if fields.left.isSome || fields.right.isSome then layout.clampColumn f.column else f.column
    formLength := fields.formLength.getD f.formLength
    formCounter := if fields.formLength.isSome then 0 else f.formCounter
    flushDelay := fields.flushDelay.getD f.flushDelay }

/-- R88: a SAVE FORMAT record pushes a snapshot, newest first, and the oldest of four is discarded first. -/
def Formatter.saveFormat (f : Formatter) : Formatter :=
  { f with stack := f.layout :: f.stack.take (Config.stackCap - 1) }

/-- R89: a RESTORE FORMAT record. -/
def restoreFormat (s : State) : State :=
  match s.fmt.stack with
  | [] => setLatch .formatUnderflow s
  | top :: rest =>
    { s with fmt := { s.fmt with stack := rest, layout := top, column := top.clampColumn s.fmt.column } }

/-- R86 to R90: a directive record is carried out. -/
def carryDirective (d : Directive) (s : State) : State :=
  match d with
  | .setFormat fields => { s with fmt := s.fmt.setFormat fields }
  | .saveFormat => { s with fmt := s.fmt.saveFormat }
  | .restoreFormat => restoreFormat s
  | .feed rows => beginDrain (.feed rows false) s

/-! ### Taking an item (R46, R47, R50, R71) -/

/-- R56: a printable code that will wrap. -/
def Formatter.wraps (f : Formatter) (c : Byte) : Bool := isPrintable c && f.layout.wrap && !f.fits

/-- R47: the character makes a line advance of the window at once (an FF only while the form length is 0). -/
def Formatter.advances (f : Formatter) (c : Byte) : Bool :=
  decide (c = 0x0A) || decide (c = 0x1E) || (decide (c = 0x0C) && decide (f.formLength = 0)) || f.wraps c

/-- R50: the item ends its owner's ownership: LF, NL, FF, a wrap, a key feed, a FEED directive. -/
def Formatter.endsOwnership (f : Formatter) (it : Item) : Bool :=
  match it with
  | .char c => f.advances c || decide (c = 0x0C)
  | .directive (.feed _) => true
  | .directive _ => false

/-- R47: a line advance would commit the oldest line. -/
def Formatter.advanceCommits (f : Formatter) : Bool :=
  f.atNewest && decide (Config.windowCap ≤ f.window.length) && !f.absorbs

/-- R47: the item needs 12 free entries of the row queue. -/
def Formatter.needsRoom (f : Formatter) (it : Item) : Bool :=
  match it with
  | .char c => f.advances c && f.advanceCommits
  | .directive _ => false

/-- R47: the row queue has the room the item needs. -/
def hasRoom (it : Item) (s : State) : Bool :=
  !s.fmt.needsRoom it || decide (Config.commitRoom ≤ rowsFree s)

/-- R71: the flush timer as it is started. -/
def flushStart (s : State) : Timer :=
  if s.fmt.flushDelay = 0 then none else some (s.now + 1000 * s.fmt.flushDelay)

/-- R46: the formatter is DRAINING. -/
def Formatter.isDraining (f : Formatter) : Bool :=
  match f.activity with
  | .draining _ => true
  | _ => false

/-- R50, R71: ownership and the two timers after an item has been carried out; `ends` says the item ends ownership. A drain
that has begun has stopped both timers. -/
def afterItem (ends : Bool) (s : State) : State :=
  { s with fmt := { s.fmt with
      owner := if ends then .none else s.fmt.owner
      lapse := if ends || s.fmt.isDraining || decide (s.fmt.owner = .none) then none
               else some (s.now + Config.lapseTime)
      flush := if s.fmt.isDraining then none else flushStart s } }

/-- R46: the item of a source is taken and carried out in full; a stall ends with it (R51). -/
def takeItem (owner : Owner) (it : Item) (s : State) : State :=
  let s0 := { s with fmt := { s.fmt with owner := owner, activity := .ready } }
  let ends := s.fmt.endsOwnership it
  let s1 := match it with
    | .char c => carryChar c s0
    | .directive d => carryDirective d s0
  afterItem ends s1

/-! ### The print text queue (R80 to R84) -/

/-- R83: at 32 or more free entries a set wanted flag clears and the Link Port is told. -/
def checkPtqRoom (s : State) : State :=
  if s.fmt.ptqWanted && decide (Config.wantedRoom ≤ Config.ptqCap - s.fmt.ptq.length) then
    { s with fmt := { s.fmt with ptqWanted := false }, link := s.link.pendRoom }
  else s

/-- R80: the formatter takes the oldest entry of the print text queue. -/
def takePtq (s : State) : State :=
  match s.fmt.ptq with
  | [] => s
  | it :: rest => takeItem .ptq it (checkPtqRoom { s with fmt := { s.fmt with ptq := rest } })

/-- R48: the pending key feed is taken, as an LF of source KEY. -/
def takeKeyFeed (s : State) : State :=
  takeItem .key (.char 0x0A) { s with fmt := { s.fmt with keyFeed := false } }

/-! ### Drains (R64, R70, R72, R90) -/

/-- R70: the activity becomes READY when a drain ends, and the owner is none; neither timer is started. -/
def endDrain (s : State) : State :=
  { s with fmt := { s.fmt with activity := .ready, owner := .none, lapse := none, flush := none } }

/-- R71, R72: the flush timer expires, and a flush begins if some open line has ink. -/
def endFlushTimer (s : State) : State :=
  let s1 := { s with fmt := { s.fmt with flush := none } }
  if s.fmt.anyInk then beginDrain (.flush s.fmt.column) s1 else s1

/-- R64: FEED entries of 255 rows each, and one of the remainder if it is not 0. -/
def feedEntries (rows : Nat) : List Nat :=
  List.replicate (rows / 255) 255 ++ (if rows % 255 = 0 then [] else [rows % 255])

/-- R64: the blank rows to the next form top. -/
def Formatter.rowsToTop (f : Formatter) : Nat := (f.formLength - f.formCounter) * 12

/-- R72: a flush completes: the fresh line carries the continuation flag at the noted column. -/
def completeFlush (column : Nat) (s : State) : State :=
  endDrain { s with fmt := { s.fmt.setCursor { s.fmt.cursor with continuation := true } with column := column } }

/-- R64: the form line counter becomes 0 and an FF drain ends. -/
def endFormFeed (s : State) : State := endDrain { s with fmt := { s.fmt with formCounter := 0 } }

/-- R64, R72, R90: the last open line of a drain has been committed. -/
def lastCommitted (d : Drain) (s : State) : State :=
  match d with
  | .flush column => completeFlush column s
  | .formFeed _ =>
    let s1 := { s with fmt := { s.fmt with
      column := s.fmt.layout.left
      activity := .draining (.formFeed (some (feedEntries s.fmt.rowsToTop))) } }
    if feedEntries s.fmt.rowsToTop = [] then endFormFeed s1 else s1
  | .feed rows _ =>
    { s with fmt := { s.fmt with column := s.fmt.layout.left, activity := .draining (.feed rows true) } }

/-- R70: the drain still has lines to commit. -/
def Drain.committing : Drain → Bool
  | .flush _ => true
  | .formFeed entries => entries.isNone
  | .feed _ committed => !committed

/-- R69, R70: the oldest line may be committed now. -/
def mayCommit (s : State) : Bool :=
  decide (Config.commitRoom ≤ rowsFree s) || (s.fmt.window.head?.map Line.continuation).getD false

/-- R70: the oldest open line of a drain is committed. -/
def drainCommit (s : State) : State :=
  match s.fmt.activity with
  | .draining d =>
    if d.committing && mayCommit s then
      let s1 := commitOldest s
      if s.fmt.window.length ≤ 1 then lastCommitted d s1 else s1
    else s
  | _ => s

/-- R64: an FF drain appends one of its FEED entries, and ends with the last. -/
def formFeedAppend (s : State) : State :=
  match s.fmt.activity with
  | .draining (.formFeed (some (n :: rest))) =>
    if 1 ≤ rowsFree s then
      let s1 := appendEntries [.feed n]
        { s with fmt := { s.fmt with activity := .draining (.formFeed (some rest)) } }
      if rest = [] then endFormFeed s1 else s1
    else s
  | _ => s

/-- R90: a FEED drain appends its FEED entry and ends. -/
def feedAppend (s : State) : State :=
  match s.fmt.activity with
  | .draining (.feed rows true) => if 1 ≤ rowsFree s then endDrain (appendEntries [.feed rows] s) else s
  | _ => s

end Sys2Proof.Machine
end

