-- ==== Sys2Proof/Machine/Router.lean ====
section
/-!
DEFINITION. The Traffic Router: sinks, routes, readiness, takes, the receive store, the transmit queue and flow control
(R155 to R174), with the line ownership of R49 that the routes take part in.
-/

namespace Sys2Proof.Machine

/-! ### Sources and sinks (R155 to R157) -/

/-- R155: LINE is present in ONLINE, FADE and TEST. -/
def linePresent (c : Conn) : Bool :=
  match c.state with
  | .online | .fade | .test => true
  | .idle | .waitAnswer | .answering | .settle | .clearing => false

/-- A source as the formatter's owner. -/
def ownerOf : Source → Owner
  | .rx => .rx | .key => .key | .stq => .stq

/-- R156: a source's enabled set. -/
def Router.route (r : Router) : Source → SinkSet
  | .rx => r.rxRoute | .key => r.keyRoute | .stq => r.stqRoute

/-- R158: a set that is not empty. -/
def SinkSet.any (x : SinkSet) : Bool := x.line || x.print || x.link

/-- R157: the enabled set after local substitution. A STQ set that contains LINE is unready while LINE is absent, which is
the empty set here. -/
def sinksOf (src : Source) (s : State) : SinkSet :=
  let enabled := s.router.route src
  if linePresent s.conn then enabled
  else match src with
    | .rx => enabled
    | .key => if enabled.line then { enabled with line := false, print := true } else enabled
    | .stq => if enabled.line then { line := false, print := false, link := false } else enabled

/-- R161: the code delivered for a received character. -/
def deliveredCode (f : LineFormat) (c : RxChar) : Byte :=
  if (c.parityBad || c.framingBad) && f.substitution then f.substitute else c.code

/-- R155: a source's oldest character, as the code a take would deliver. -/
def headCode (src : Source) (s : State) : Option Byte :=
  match src with
  | .rx => s.router.store.head?.map (deliveredCode s.format)
  | .key => s.keys.queue.head?.map KeyChar.code
  | .stq => s.router.stq.head?

/-- R155, R166: the LINK sink of a source can accept; STQ has none. -/
def linkAccepts (src : Source) (s : State) : Bool :=
  match src with
  | .rx => decide (s.router.rxData.length < Config.rxDataCap)
  | .key => decide (s.router.keyData.length < Config.keyDataCap)
  | .stq => false

/-- R155, R162: LINE is present and the transmit queue has a free place. -/
def linePlace (s : State) : Bool := linePresent s.conn && decide (s.router.txQueue.length < Config.txCap)

/-! ### Contention for the line (R49) -/

/-- R49: RX contends for the line. -/
def rxContends (s : State) : Bool :=
  let x := sinksOf .rx s
  x.print && (headCode .rx s).isSome && (!x.link || linkAccepts .rx s) && !x.line

/-- R48, R49: the Router has a KEY character that every other sink of its set could accept; none while a key feed is
pending. -/
def keyCharContends (s : State) : Bool :=
  let x := sinksOf .key s
  !s.fmt.keyFeed && x.print && (headCode .key s).isSome && (!x.line || linePlace s) && (!x.link || linkAccepts .key s)

/-- R49: KEY contends when a key feed is pending, or with a character. -/
def keyContends (s : State) : Bool := s.fmt.keyFeed || keyCharContends s

/-- R155: the formatter would take the character of `owner` as an item, the arbiter granting it if `granted`. -/
def formatterTakes (owner : Owner) (granted : Bool) (c : Byte) (s : State) : Bool :=
  !s.fmt.isDraining && (decide (s.fmt.owner = owner) || (decide (s.fmt.owner = .none) && granted))
    && hasRoom (.char c) s

/-- R163: KEY is ready apart from the free place of the transmit queue; every free place is then its own (log 23). -/
def keyWantsPlace (s : State) : Bool :=
  let x := sinksOf .key s
  match headCode .key s with
  | none => false
  | some c =>
    x.line
      && (!x.print || (!s.fmt.keyFeed && formatterTakes .key (keyContends s && !rxContends s) c s))
      && (!x.link || linkAccepts .key s)

/-- R155, R163: LINE can accept a character of the source: a free place that the arbiter hands to it. -/
def lineAccepts (src : Source) (s : State) : Bool :=
  match src with
  | .rx => false
  | .key => linePlace s
  | .stq => linePlace s && !keyWantsPlace s

/-- R49: STQ contends for the line. -/
def stqContends (s : State) : Bool :=
  let x := sinksOf .stq s
  x.print && (headCode .stq s).isSome && (!x.line || lineAccepts .stq s) && !x.link

/-- R49: the source to which the arbiter grants the line: RX first, then KEY, then STQ, then PTQ. -/
def grantee (s : State) : Owner :=
  if rxContends s then .rx
  else if keyContends s then .key
  else if stqContends s then .stq
  else if s.fmt.ptq.isEmpty then .none
  else .ptq

/-- R155: PRINT can accept the oldest character of a source. -/
def printAccepts (src : Source) (s : State) : Bool :=
  match headCode src s with
  | none => false
  | some c =>
    formatterTakes (ownerOf src) (decide (grantee s = ownerOf src)) c s && !(decide (src = .key) && s.fmt.keyFeed)

/-- R158: a source is ready. -/
def ready (src : Source) (s : State) : Bool :=
  let x := sinksOf src s
  (headCode src s).isSome && x.any && (!x.line || lineAccepts src s) && (!x.print || printAccepts src s)
    && (!x.link || linkAccepts src s)

/-- R49, R50: the grant: the source becomes owner and its lapse timer starts. -/
def grant (s : State) : State :=
  if decide (s.fmt.owner = .none) && !s.fmt.isDraining && decide (grantee s ≠ .none) then
    { s with fmt := { s.fmt with owner := grantee s, lapse := some (s.now + Config.lapseTime) } }
  else s

/-! ### Flow control (R168 to R174) -/

/-- R170: the high mark. -/
def highMark (f : LineFormat) : Nat := if f.deep then 24 else 10

/-- R170: the low mark. -/
def lowMark (f : LineFormat) : Nat := if f.deep then 8 else 4

/-- R159: the depth of the receive store. -/
def storeDepth (f : LineFormat) : Nat := if f.deep then 32 else 16

/-- R171: CLEAR to HOLD SENT: an unsent RESUME is cancelled, else a HOLD is placed. -/
def Router.sendHold (r : Router) : Router :=
  { r with
    holdSent := true
    slot := match r.slot with
      | some { kind := .resume, code := _ } => none
      | _ => some { kind := .hold, code := r.holdCode } }

/-- R171: HOLD SENT to CLEAR: an unsent HOLD is cancelled, else a RESUME is placed. -/
def Router.sendResume (r : Router) : Router :=
  { r with
    holdSent := false
    slot := match r.slot with
      | some { kind := .hold, code := _ } => none
      | _ => some { kind := .resume, code := r.resumeCode } }

/-- R170: local hold is judged in ONLINE and FADE while flow is on. -/
def holdJudged (s : State) : Bool :=
  s.router.flowOn && (decide (s.conn.state = .online) || decide (s.conn.state = .fade))

/-- R170: local hold is wanted. -/
def holdWanted (s : State) : Bool := decide (highMark s.format ≤ s.router.store.length) || s.router.pause

/-- R170: local hold is unwanted. -/
def holdUnwanted (s : State) : Bool := decide (s.router.store.length ≤ lowMark s.format) && !s.router.pause

/-- R170, R171: a judgement of local hold; a change of the local hold state is told to the Link Port. -/
def judgeHold (s : State) : State :=
  if holdJudged s && holdWanted s && !s.router.holdSent then
    { s with router := s.router.sendHold, link := s.link.pendLine }
  else if holdJudged s && holdUnwanted s && s.router.holdSent then
    { s with router := s.router.sendResume, link := s.link.pendLine }
  else s

/-- R169: remote held clears, its timer is stopped, and a change is told to the Link Port. -/
def clearRemoteHeld (s : State) : State :=
  { s with
    router := { s.router with remoteHeld := false, remoteTimer := none }
    link := if s.router.remoteHeld then s.link.pendLine else s.link }

/-- R169: a consumed hold code. With the timeout 0 the timer is left stopped, also where it still runs from before a SET FLOW
gave the timeout 0 (log 26). -/
def setRemoteHeld (s : State) : State :=
  { s with
    router := { s.router with
      remoteHeld := true
      remoteTimer := if s.router.holdTimeout = 0 then none else some (s.now + 1000000 * s.router.holdTimeout) }
    link := if s.router.remoteHeld then s.link else s.link.pendLine }

/-- R169: the remote hold timer expires. -/
def endRemoteTimer (s : State) : State := setLatch .holdExpired (clearRemoteHeld s)

/-- R172: the flow switch goes off while it was on. -/
def turnFlowOff (s : State) : State :=
  let s1 := if s.router.holdSent then { s with router := s.router.sendResume, link := s.link.pendLine } else s
  let s2 := clearRemoteHeld s1
  { s2 with router := { s2.router with flowOn := false } }

/-- R173: operator pause is toggled, which is a moment of judgement. -/
def togglePause (s : State) : State := judgeHold { s with router := { s.router with pause := !s.router.pause } }

/-- R174: what the Router does when it is told of an entry to IDLE; the transmit queue is emptied and counted on an entry from
SETTLE, ONLINE, FADE or CLEARING. -/
def routerIdle (fromCall : Bool) (s : State) : State :=
  let s1 := clearRemoteHeld s
  { s1 with
    router := { s1.router with
      slot := none
      holdSent := false
      txQueue := if fromCall then [] else s1.router.txQueue
      discards := if fromCall then countUpBy s1.router.txQueue.length s1.router.discards else s1.router.discards }
    link := if s1.router.holdSent then s1.link.pendLine else s1.link }

/-! ### Received characters (R160, R163) -/

/-- R163: an echo copy is offered to the transmit queue. -/
def Router.echo (code : Byte) (r : Router) : Router :=
  if r.txQueue.length < Config.txCap then { r with txQueue := r.txQueue ++ [code] }
  else { r with echoDrops := countUp r.echoDrops }

/-- R160, step 1: the character is a flow code. -/
def isFlowCode (c : RxChar) (s : State) : Bool :=
  s.router.flowOn && !c.parityBad && !c.framingBad
    && (decide (c.code = s.router.holdCode) || decide (c.code = s.router.resumeCode))

/-- R169: a flow code is consumed. -/
def consumeFlow (c : RxChar) (s : State) : State :=
  if c.code = s.router.holdCode then setRemoteHeld s else clearRemoteHeld s

/-- R160, step 2: the counters of the flags, and RX ERROR. -/
def countFlags (c : RxChar) (s : State) : State :=
  { s with
    router := { s.router with
      parityErrors := if c.parityBad then countUp s.router.parityErrors else s.router.parityErrors
      framingErrors := if c.framingBad then countUp s.router.framingErrors else s.router.framingErrors }
    link := if c.parityBad || c.framingBad then s.link.setLatch .rxError else s.link }

/-- R160, step 3, R163: the character joins the store, with its echo copy under REMOTE ECHO, or is dropped as an overrun. -/
def storeChar (c : RxChar) (s : State) : State :=
  if s.router.store.length < storeDepth s.format then
    let r := { s.router with store := s.router.store ++ [c] }
    judgeHold { s with
      router := if s.conn.loop = .remoteEcho then r.echo (deliveredCode s.format c) else r }
  else setLatch .rxOverrun { s with router := { s.router with overruns := countUp s.router.overruns } }

/-- R160: a received character reaches the Router. -/
def arrive (c : RxChar) (s : State) : State :=
  if isFlowCode c s then consumeFlow c s else storeChar c (countFlags c s)

/-! ### Takes (R158) -/

/-- R165: at 32 or more free places a set wanted flag clears and the Link Port is told. -/
def checkStqRoom (s : State) : State :=
  if s.router.stqWanted && decide (Config.wantedRoom ≤ Config.stqCap - s.router.stq.length) then
    { s with router := { s.router with stqWanted := false }, link := s.link.pendRoom }
  else s

/-- R158: the oldest character leaves its source; a change of the store's fill is a moment of judgement (R159), and the
STQ's room is looked at (R165). -/
def removeHead (src : Source) (s : State) : State :=
  match src with
  | .rx => judgeHold { s with router := { s.router with store := s.router.store.tail } }
  | .key => { s with keys := { s.keys with queue := s.keys.queue.tail } }
  | .stq => checkStqRoom { s with router := { s.router with stq := s.router.stq.tail } }

/-- R158, R166: a character is delivered to LINK; STQ has no LINK sink. -/
def Router.toLink (src : Source) (c : KeyChar) (r : Router) : Router :=
  match src with
  | .rx => { r with rxData := r.rxData ++ [c.code] }
  | .key => { r with keyData := r.keyData ++ [c] }
  | .stq => r

/-- The repeated flag that travels with a source's oldest character to LINK (R150). -/
def headRepeated (src : Source) (s : State) : Bool :=
  match src with
  | .key => (s.keys.queue.head?.map KeyChar.repeated).getD false
  | _ => false

/-- R158: the character is delivered to the queues of the set, LINK and LINE. -/
def deliverQueues (src : Source) (x : SinkSet) (c : KeyChar) (s : State) : State :=
  let r1 := if x.link then s.router.toLink src c else s.router
  { s with router := if x.line then { r1 with txQueue := r1.txQueue ++ [c.code] } else r1 }

/-- R158: a source is taken: its oldest character leaves it and is delivered to every sink of the set. -/
def takeSource (src : Source) (s : State) : State :=
  match headCode src s with
  | none => s
  | some code =>
    let x := sinksOf src s
    let s1 := deliverQueues src x { code := code, repeated := headRepeated src s } (removeHead src s)
    if x.print then takeItem (ownerOf src) (.char code) s1 else s1

/-- R158: a ready source is taken; a source that is not ready is left as it stands. -/
def takeIfReady (src : Source) (s : State) : State := if ready src s then takeSource src s else s

/-! ### Stalls (R51) -/

/-- R51: the item the formatter would take next from its owner, as it is offered now. -/
def nextItem (s : State) : Option Item :=
  match s.fmt.owner with
  | .none => none
  | .rx => if rxContends s then (headCode .rx s).map .char else none
  | .key =>
    if s.fmt.keyFeed then some (.char 0x0A)
    else if keyCharContends s then (headCode .key s).map .char else none
  | .stq => if stqContends s then (headCode .stq s).map .char else none
  | .ptq => s.fmt.ptq.head?

/-- R51: the formatter takes its owner's next item. -/
def takeOwned (s : State) : State :=
  match s.fmt.owner with
  | .none => s
  | .rx => takeSource .rx s
  | .key => if s.fmt.keyFeed then takeKeyFeed s else takeSource .key s
  | .stq => takeSource .stq s
  | .ptq => takePtq s

/-- R51: the return to READY without a take: the lapse timer starts for 2 s, the flush timer for its full delay. -/
def leaveStall (s : State) : State :=
  { s with fmt := { s.fmt with
      activity := .ready
      lapse := if s.fmt.owner = .none then none else some (s.now + Config.lapseTime)
      flush := flushStart s } }

/-- R51: a STALLED formatter takes its item when the room has arrived, and becomes READY when the item has gone away or
needs room no longer (log 18). -/
def endStall (s : State) : State :=
  if s.fmt.activity = .stalled then
    match nextItem s with
    | none => leaveStall s
    | some it =>
      if s.fmt.needsRoom it then (if hasRoom it s then takeOwned s else s) else leaveStall s
  else s

/-- R51: a READY formatter whose next item needs room that is not there becomes STALLED; both timers stop. -/
def beginStall (s : State) : State :=
  if s.fmt.activity = .ready then
    match nextItem s with
    | none => s
    | some it =>
      if hasRoom it s then s
      else { s with fmt := { s.fmt with activity := .stalled, lapse := none, flush := none } }
  else s

/-- R49, R51: the judgements of the formatter at the end of a row: a stall may end, the arbiter may grant, a stall may
begin (log 6). -/
def judgeFormatter (s : State) : State := beginStall (grant (endStall s))

/-- R47, R48: the formatter takes a print text queue entry or a pending key feed, when its source has or is granted the line
and the row queue has the room. -/
def formatterTake (s : State) : State :=
  let s1 := grant s
  if s1.fmt.isDraining then s
  else if s1.fmt.owner = .ptq then
    match s1.fmt.ptq with
    | [] => s
    | it :: _ => if hasRoom it s1 then takePtq s1 else s
  else if s1.fmt.owner = .key && s1.fmt.keyFeed then
    (if hasRoom (.char 0x0A) s1 then takeKeyFeed s1 else s)
  else s

end Sys2Proof.Machine
end

