-- ==== Sys2Proof/Machine/Tones.lean ====
section
/-!
DEFINITION. Tones and characters on the line: the Tone Generator, the Discriminator, the Deframer and the Framer
(R93 to R111).
-/

namespace Sys2Proof.Machine

/-! ### Channels and the character format (R93, R96, R97) -/

/-- R99, R104: the state is TEST with LOCAL TONE. -/
def inLocalTone (c : Conn) : Bool := decide (c.state = .test) && decide (c.loop = .localTone)

/-- R111: the state is TEST with LOCAL CHAR. -/
def inLocalChar (c : Conn) : Bool := decide (c.state = .test) && decide (c.loop = .localChar)

/-- R93: the transmit channel. -/
def txChannel (c : Conn) : ToneChannel :=
  match c.role with
  | .originate => .low
  | .answer => .high

/-- R93: the listen channel; in TEST with LOCAL TONE it is the low channel. -/
def listenChannel (c : Conn) : ToneChannel :=
  if inLocalTone c then .low
  else match c.role with
    | .originate => .high
    | .answer => .low

/-- R93: a tone's frequency in Hz; SILENT has none. -/
def toneHertz : ToneChannel → Tone → Nat
  | _, .silent => 0
  | .low, .mark => 1120
  | .low, .space => 920
  | .high, .mark => 2080
  | .high, .space => 1880

/-- R97: the bit time. -/
def Speed.bitTime : Speed → Micros
  | .b110 => 9091 | .b150 => 6667 | .b300 => 3333

/-- R97: the half bit time. -/
def Speed.halfBit : Speed → Micros
  | .b110 => 4545 | .b150 => 3333 | .b300 => 1666

/-- R96: the number of data cells. -/
def dataCells (f : LineFormat) : Nat := if f.eightBits then 8 else 7

/-- R97: the number of parity cells. -/
def parityCells (f : LineFormat) : Nat := if f.parity = .none then 0 else 1

/-- R96: the number of stop cells. -/
def stopCells (f : LineFormat) : Nat := if f.twoStops then 2 else 1

/-- R97: the frame time, in cells. -/
def frameCells (f : LineFormat) : Nat := 1 + dataCells f + parityCells f + stopCells f

/-! ### The Framer's cells (R108) -/

/-- R108: the data bits sent, least significant first. -/
def sentBits (f : LineFormat) (code : Byte) : List Bool := (List.range (dataCells f)).map code.getLsbD

/-- The number of 1s among some bits. -/
def ones (bits : List Bool) : Nat := bits.count true

/-- R108: the parity bit generated on the data bits sent. -/
def parityBit (p : Parity) (bits : List Bool) : Bool :=
  match p with
  | .even => decide (ones bits % 2 = 1)
  | .odd => decide (ones bits % 2 = 0)
  | .mark => true
  | .space => false
  | .none => false

/-- R108: the cells of a character, MARK as true. -/
def framedCells (f : LineFormat) (code : Byte) : List Bool :=
  [false] ++ sentBits f code ++ (if f.parity = .none then [] else [parityBit f.parity (sentBits f code)])
    ++ List.replicate (stopCells f) true

/-- R108: the value of the present cell. -/
def presentCell (f : LineFormat) (c : FramedChar) : Bool := (framedCells f c.code).getD c.cell true

/-! ### The Tone Generator (R94, R95) -/

/-- MARK for 1, SPACE for 0. -/
def toneOfBit (b : Bool) : Tone := if b then .mark else .space

/-- R95: the output for the connect state, the Framer and the break timer. -/
def wantedTone (s : State) : Tone :=
  let carrying : Tone :=
    match s.signal.framer with
    | some c => toneOfBit (presentCell s.format c)
    | none => if s.signal.breakTimer.isSome then .space else .mark
  match s.conn.state with
  | .idle | .waitAnswer => .silent
  | .answering | .settle => .mark
  | .online | .fade => carrying
  | .clearing =>
    match s.signal.framer with
    | some c => toneOfBit (presentCell s.format c)
    | none => .space
  | .test => if s.conn.loop = .localTone then carrying else .silent

/-- R94: the wave's phase at the moment `t`, in millionths of a cycle: hertz times µs are millionths of a cycle. -/
def ToneGen.phaseAt (g : ToneGen) (t : Micros) : Nat :=
  (g.phase + toneHertz g.channel g.output * (t - g.since)) % 1000000

/-- R94: the output changes: from SILENT the wave begins at phase 0 on the transmit channel as it then stands; between MARK
and SPACE the phase is carried over. While SILENT there is no wave, and the phase is kept at 0 (log 8). -/
def ToneGen.change (out : Tone) (channel : ToneChannel) (t : Micros) (g : ToneGen) : ToneGen :=
  if g.output = out then g
  else if g.output = .silent then { output := out, channel := channel, phase := 0, since := t }
  else { output := out, channel := g.channel, phase := if out = .silent then 0 else g.phaseAt t, since := t }

/-- R94: the parts of a µs (Config.waveParts) that the wave takes for one millionth of a cycle; 0 while the output is
SILENT. -/
def ToneGen.slowness (g : ToneGen) : Nat := Config.waveParts / toneHertz g.channel g.output

/-- R94, R99: the moment, in parts of a µs, of the wave's first zero crossing after `last`, and not before the last change of
output. The wave crosses zero each time it has turned half a cycle, counted from phase 0; its beginning from SILENT is no
crossing (log 17). -/
def ToneGen.nextCrossing (last : Option Nat) (g : ToneGen) : Nat :=
  let began := g.since * Config.waveParts
  let turns := match last with
    | none => g.phase / 500000 + 1
    | some t => if t < began then (g.phase + 499999) / 500000 else (g.phase + (t - began) / g.slowness) / 500000 + 1
  began + (turns * 500000 - g.phase) * g.slowness

/-- R95: the output changes at the moment its cause changes. -/
def settleTone (s : State) : State :=
  { s with tone := s.tone.change (wantedTone s) (txChannel s.conn) s.now }

/-! ### The Discriminator (R98, R99) -/

/-- R98: how a half-period is classified. -/
inductive HalfClass where
  | mark | space | out
  deriving DecidableEq, Repr

/-- R98: a half-period of `h` µs on the listen channel. -/
def classify (channel : ToneChannel) (h : Micros) : HalfClass :=
  match channel with
  | .low =>
    if 380 ≤ h ∧ h < 495 then .mark else if 495 ≤ h ∧ h ≤ 620 then .space else .out
  | .high =>
    if 205 ≤ h ∧ h < 253 then .mark else if 253 ≤ h ∧ h ≤ 300 then .space else .out

/-- R99: the line state after a half-period. -/
def lineAfter (lineMark : Bool) : HalfClass → Bool
  | .mark => true
  | .space => false
  | .out => lineMark

/-- R100: what a line state does to the Deframer: MARK ends WAIT MARK, and SPACE in WAIT START is a start edge. A character in
hand reads the line state at its own moments. -/
def Deframer.watch (lineMark : Bool) (t : Micros) (d : Deframer) : Deframer :=
  match d with
  | .waitMark => if lineMark then .waitStart else .waitMark
  | .waitStart => if lineMark then .waitStart else .assembling t [] false
  | other => other

/-- R113, R118: the Carrier Monitor counts a half-period in its window; an idle monitor does not. -/
def Monitor.countHalf (c : HalfClass) (m : Monitor) : Monitor :=
  if m.window.isSome then
    { m with total := m.total + 1, inBand := if c = .out then m.inBand else m.inBand + 1 }
  else m

/-- R98, R99: a crossing ends a half-period of `h` µs. -/
def judgeHalf (h : Micros) (s : State) : State :=
  let c := classify (listenChannel s.conn) h
  let mark := lineAfter s.signal.lineMark c
  { s with
    monitor := s.monitor.countHalf c
    signal := { s.signal with
      lineMark := mark
      deframer := if mark = s.signal.lineMark then s.signal.deframer else s.signal.deframer.watch mark s.now } }

/-- R98: a zero crossing at the moment `at0`, in parts of a µs: it ends the half-period in progress, measured in whole µs,
truncated, and begins the next. The first crossing of an input only begins one (log 12). -/
def crossing (at0 : Nat) (s : State) : State :=
  let s1 := match s.signal.crossing with
    | none => s
    | some t => judgeHalf ((at0 - t) / Config.waveParts) s
  { s1 with signal := { s1.signal with crossing := some at0 } }

/-- R98, R99: a zero crossing of MIC, `dt` µs after the row before. -/
def micCrossing (dt : Micros) (s : State) : State := crossing ((s.now + dt) * Config.waveParts) (after dt s)

/-- R99, R132: the next zero crossing of the Tone Generator's own wave, judged at the first whole µs at or after it; a SILENT
output has none (log 17). -/
def ownCrossing (s : State) : State :=
  if s.tone.output = .silent then s
  else
    let at0 := s.tone.nextCrossing s.signal.crossing
    crossing at0 (atMoment ((at0 + (Config.waveParts - 1)) / Config.waveParts) s)

/-- R99: a zero crossing of the Discriminator's input: in TEST with LOCAL TONE the part's own wave, carried inside it, and
MIC in every other state. MIC is not timed in that state, so the `dt` of its sender has no meaning there (log 17). -/
def inputCrossing (dt : Micros) (s : State) : State := if inLocalTone s.conn then ownCrossing s else micCrossing dt s

/-! ### The Deframer (R100 to R106) -/

/-- R100: the moment of the next cell centre of a character. -/
def nextCentre (f : LineFormat) (edge : Micros) (cells : List Bool) : Micros :=
  edge + f.speed.halfBit + cells.length * f.speed.bitTime

/-- R103: the end of the watch, two frame times after the start edge. -/
def watchEnd (f : LineFormat) (edge : Micros) : Micros := edge + 2 * frameCells f * f.speed.bitTime

/-- A Deframer that has let a character go: WAIT START, or WAIT MARK while the line state is SPACE. -/
def Deframer.seek (lineMark : Bool) : Deframer := if lineMark then .waitStart else .waitMark

/-- R101: the code built from the data cells, least significant first. -/
def codeOf (bits : List Bool) : Byte :=
  BitVec.ofNat 8 (bits.foldr (fun b n => 2 * n + (if b then 1 else 0)) 0)

/-- R101: parity is good on the data bits and the parity bit as read. -/
def parityGood (p : Parity) (data : List Bool) (bit : Bool) : Bool :=
  match p with
  | .none => true
  | .even => decide ((ones data + (if bit then 1 else 0)) % 2 = 0)
  | .odd => decide ((ones data + (if bit then 1 else 0)) % 2 = 1)
  | .mark => bit
  | .space => !bit

/-- R101, R102: the data cells among the cells read. -/
def dataOf (f : LineFormat) (cells : List Bool) : List Bool := (cells.drop 1).take (dataCells f)

/-- R101: parity_bad. -/
def parityBadOf (f : LineFormat) (cells : List Bool) : Bool :=
  !parityGood f.parity (dataOf f cells) (cells.getD (1 + dataCells f) true)

/-- R102: framing_bad: a stop cell read SPACE. -/
def framingBadOf (f : LineFormat) (cells : List Bool) : Bool :=
  (cells.drop (1 + dataCells f + parityCells f)).any fun b => !b

/-- R100: a cell centre that is not the last: a MARK at the start cell's centre is a false start. -/
def cellCentre (edge : Micros) (cells : List Bool) (spoiled : Bool) (s : State) : State :=
  let mark := s.signal.lineMark
  { s with signal := { s.signal with
      deframer := if cells = [] ∧ mark = true then .waitStart
                  else .assembling edge (cells ++ [mark]) spoiled } }

/-- R105: a received character is counted and handed to the Router. -/
def handOn (c : RxChar) (s : State) : State :=
  arrive c { s with signal := { s.signal with received := countUp s.signal.received } }

/-- R104: a finished character is received in ONLINE and in TEST with LOCAL TONE, unless it is spoiled. -/
def isReceived (spoiled : Bool) (s : State) : Bool :=
  !spoiled && (decide (s.conn.state = .online) || inLocalTone s.conn)

/-- R104: a muted character is counted. -/
def muteOne (s : State) : State := { s with signal := { s.signal with muted := countUp s.signal.muted } }

/-- R104, R105: a finished character is handed on or muted. -/
def finishChar (c : RxChar) (spoiled : Bool) (s : State) : State :=
  if isReceived spoiled s then handOn c s else muteOne s

/-- The Deframer's state replaced. -/
def setDeframer (d : Deframer) (s : State) : State := { s with signal := { s.signal with deframer := d } }

/-- R102: the centre of the last stop cell: the character is finished, or held for a break watch. -/
def lastCentre (edge : Micros) (cells : List Bool) (spoiled : Bool) (s : State) : State :=
  let all := cells ++ [s.signal.lineMark]
  let f := s.format
  let c : RxChar :=
    { code := codeOf (dataOf f all), parityBad := parityBadOf f all, framingBad := framingBadOf f all }
  if c.framingBad && !(dataOf f all).any id then setDeframer (.breakWatch edge c.parityBad spoiled) s
  else finishChar c spoiled
    (setDeframer (if c.framingBad then .seek s.signal.lineMark else .waitStart) s)

/-- R103: in BREAK WATCH the line state has changed to MARK: the held character 00h is finished. -/
def finishHeld (parityBad spoiled : Bool) (s : State) : State :=
  finishChar { code := 0, parityBad := parityBad, framingBad := true } spoiled (setDeframer .waitStart s)

/-- R102, R103: a character is finished: at the centre of its last stop cell, or held in BREAK WATCH with the line state back
at MARK (log 13). A BREAK WATCH that is entered with the line state already back at MARK, which R103 does not speak of, has its
held character finished by this row as well (log 24). -/
def characterFinished (s : State) : State :=
  match s.signal.deframer with
  | .assembling edge cells spoiled =>
    if cells.length + 1 = frameCells s.format then
      lastCentre edge cells spoiled (atMoment (nextCentre s.format edge cells) s)
    else s
  | .breakWatch _ parityBad spoiled => if s.signal.lineMark then finishHeld parityBad spoiled s else s
  | _ => s

/-- R100: the centre of a cell before the last. -/
def centreReached (s : State) : State :=
  match s.signal.deframer with
  | .assembling edge cells spoiled =>
    if cells.length + 1 < frameCells s.format then
      cellCentre edge cells spoiled (atMoment (nextCentre s.format edge cells) s)
    else s
  | _ => s

/-- R103: the end of the watch with the line state still at SPACE: a break. Muted, its held character counts as one. -/
def breakReceived (spoiled : Bool) (s : State) : State :=
  let s1 := setDeframer .waitMark s
  if isReceived spoiled s then setLatch .breakSeen s1 else muteOne s1

/-- R103: the end of the watch. With the line state at MARK it is no break and changes nothing: the held character waits for its
CHARACTER_FINISHED (log 13, log 24). -/
def breakWatchEnd (s : State) : State :=
  match s.signal.deframer with
  | .breakWatch edge _ spoiled =>
    if s.signal.lineMark then s else breakReceived spoiled (atMoment (watchEnd s.format edge) s)
  | _ => s

/-- R106: the character in hand is abandoned, and nothing is produced or counted. -/
def Deframer.abandon (lineMark : Bool) (d : Deframer) : Deframer :=
  match d with
  | .assembling _ _ _ | .breakWatch _ _ _ => .seek lineMark
  | other => other

/-- R104: the character in hand is spoiled. -/
def Deframer.spoil (d : Deframer) : Deframer :=
  match d with
  | .assembling edge cells _ => .assembling edge cells true
  | .breakWatch edge bad _ => .breakWatch edge bad true
  | other => other

/-! ### The Framer (R107 to R111) -/

/-- R107: the connect state lets the Framer take. -/
def framerState (c : Conn) : Bool :=
  match c.state with
  | .online | .fade | .test => true
  | .idle | .waitAnswer | .answering | .settle | .clearing => false

/-- R107: the Framer may take a character. -/
def framerMayTake (s : State) : Bool :=
  s.signal.framer.isNone && framerState s.conn && s.signal.breakTimer.isNone && s.signal.markTimer.isNone

/-- R108: a character is framed from this moment. -/
def beginFraming (code : Byte) (s : State) : State :=
  { s with signal := { s.signal with framer := some { code := code, start := s.now, cell := 0 } } }

/-- R107: the flow slot's code first, else the oldest character of the transmit queue while remote held is clear. -/
def framerTake (s : State) : State :=
  if framerMayTake s then
    match s.router.slot with
    | some f => beginFraming f.code { s with router := { s.router with slot := none } }
    | none =>
      match s.router.txQueue with
      | c :: rest =>
        if s.router.remoteHeld then s
        else beginFraming c { s with router := { s.router with txQueue := rest } }
      | [] => s
  else s

/-- R108: the moment the present cell of a character ends. -/
def cellEnd (f : LineFormat) (c : FramedChar) : Micros := c.start + (c.cell + 1) * f.speed.bitTime

/-- R108: a cell before the last ends and the next begins. -/
def cellBoundary (s : State) : State :=
  match s.signal.framer with
  | some c =>
    if c.cell + 1 < frameCells s.format then
      let s1 := atMoment (cellEnd s.format c) s
      { s1 with signal := { s1.signal with framer := some { c with cell := c.cell + 1 } } }
    else s
  | none => s

/-- R111: the bits sent, as a code. -/
def sentCode (f : LineFormat) (code : Byte) : Byte := if f.eightBits then code else code &&& 0x7F

/-- R108, R111: the last stop cell ends: the Framer is free, and under LOCAL CHAR the character is handed back. -/
def characterEnd (c : FramedChar) (s : State) : State :=
  let s1 := { s with signal := { s.signal with framer := none } }
  if inLocalChar s.conn then handOn { code := sentCode s.format c.code, parityBad := false, framingBad := false } s1
  else s1

/-- R108: the end of the last stop cell of the character being framed. -/
def framerCharacterEnd (s : State) : State :=
  match s.signal.framer with
  | some c =>
    if c.cell + 1 = frameCells s.format then characterEnd c (atMoment (cellEnd s.format c) s) else s
  | none => s

/-- R110: a break is asked for: the timer is started or restarted. A mark still owed to an earlier break gives way to the new
break's own (log 14). -/
def startBreak (s : State) : State :=
  { s with signal := { s.signal with breakTimer := some (s.now + Config.breakTime), markTimer := none } }

/-- R128: a break is asked for by the command or the key: it acts in ONLINE and FADE. -/
def breakAllowed (c : Conn) : Bool := decide (c.state = .online) || decide (c.state = .fade)

/-- R110: the break timer expires and mark is sent for one bit time. -/
def endBreak (s : State) : State :=
  { s with signal := { s.signal with
      breakTimer := none, markTimer := some (s.now + s.format.speed.bitTime) } }

/-- R110: the mark after a break has been sent. -/
def endMark (s : State) : State := { s with signal := { s.signal with markTimer := none } }

end Sys2Proof.Machine
end

