-- ==== Sys2Proof/Machine/Carrier.lean ====
section
/-!
DEFINITION. The Carrier Monitor and the Connection Controller (R113 to R135).
-/

namespace Sys2Proof.Machine

/-! ### The Carrier Monitor (R113 to R118) -/

/-- R114: the total a good window needs at least. -/
def leastTotal : ToneChannel → Nat
  | .low => 14 | .high => 30

/-- R114: the window is good. -/
def windowGood (channel : ToneChannel) (m : Monitor) : Bool :=
  decide (m.total * 3 ≤ m.inBand * 4) && decide (leastTotal channel ≤ m.total)

/-- R115: the level state after a reading under a threshold set. -/
def levelAfter (noisy high : Bool) (code : Nat) : Bool :=
  if (if noisy then 64 else 40) ≤ code then true
  else if code < (if noisy then 48 else 28) then false
  else high

/-- R115: the level code; a reading whose valid flag is clear is taken as 0. -/
def levelCode (s : State) : Nat := if s.supply.level.valid then s.supply.level.code.toNat else 0

/-- R117: a run goes up by one, and no higher than 99. -/
def runUp (n : Nat) : Nat := min (n + 1) Config.runMax

/-- R116, R117: the level state is not consulted in weak line mode and in TEST with LOCAL TONE. -/
def levelIgnored (s : State) : Bool := s.monitor.weak || inLocalTone s.conn

/-- R116: the qualifying run that makes the carrier PRESENT. -/
def qualifyingFigure (weak : Bool) : Nat := if weak then 30 else 15

/-- What a window end tells the Connection Controller. -/
inductive Transition where
  | none | present | absent
  deriving DecidableEq, Repr

/-- R116: a window end while the carrier is ABSENT. -/
def windowAbsent (good ignore : Bool) (m : Monitor) : Monitor × Transition :=
  let run := if good && (m.levelHigh || ignore) then runUp m.qualifying else 0
  if qualifyingFigure m.weak ≤ run then
    ({ m with present := true, qualifying := 0, badRun := 0, lowRun := 0 }, .present)
  else ({ m with qualifying := run }, .none)

/-- R117: a window end while the carrier is PRESENT. -/
def windowPresent (good ignore : Bool) (m : Monitor) : Monitor × Transition :=
  let bad := if good then 0 else runUp m.badRun
  let low := if m.levelHigh then 0 else runUp m.lowRun
  if 6 ≤ bad ∨ (6 ≤ low ∧ ignore = false) then
    ({ m with present := false, qualifying := 0, badRun := 0, lowRun := 0 }, .absent)
  else ({ m with badRun := bad, lowRun := low }, .none)

/-- R113 to R117: the monitor at a window end, and the transition it hands on. The next window begins with both counts at
0. -/
def windowJudged (s : State) : Monitor × Transition :=
  let m := s.monitor
  let good := windowGood (listenChannel s.conn) m
  let m1 := { m with
    total := 0
    inBand := 0
    window := some (s.now + Config.windowTime)
    levelHigh := levelAfter m.noisy m.levelHigh (levelCode s) }
  if m.present then windowPresent good (levelIgnored s) m1 else windowAbsent good (levelIgnored s) m1

/-- R118: a restart of the monitor: the carrier is ABSENT, every run is 0, and a fresh window begins. It makes no transition. -/
def Monitor.restart (t : Micros) (m : Monitor) : Monitor :=
  { m with total := 0, inBand := 0, window := some (t + Config.windowTime), present := false
           qualifying := 0, badRun := 0, lowRun := 0 }

/-- R118: the monitor becomes idle on entry to TEST with LOCAL CHAR. -/
def Monitor.goIdle (m : Monitor) : Monitor :=
  { m with total := 0, inBand := 0, window := none, present := false, qualifying := 0, badRun := 0, lowRun := 0 }

/-! ### Changes of connect state (R129, R130) -/

/-- R104: the Deframer's character in hand is spoiled by this change: the state leaves ONLINE, or enters or leaves TEST with
LOCAL TONE. -/
def spoils (old new : Conn) : Bool :=
  (decide (old.state = .online) && decide (new.state ≠ .online)) || (inLocalTone old != inLocalTone new)

/-- R99, R104, R110: what the signal path does at a change from `old` to `new`: a spoiled character, an abandoned half-period,
a break timer stopped on leaving ONLINE and FADE. A mark of R110 that an expired break still owes is sent on to its end, and takes
wait for it: R110 and R129 free only a break timer that is stopped without expiring (log 25). -/
def Signal.onChange (old new : Conn) (g : Signal) : Signal :=
  { g with
    deframer := if spoils old new then g.deframer.spoil else g.deframer
    crossing := if inLocalTone old != inLocalTone new then none else g.crossing
    breakTimer := if breakAllowed new then g.breakTimer else none }

/-- R130, R170: a change of connect state to `new`: the Link Port is told, and local hold is judged on entry to ONLINE or
FADE. -/
def changeConn (new : Conn) (s : State) : State :=
  let s1 := { s with
    conn := new
    signal := s.signal.onChange s.conn new
    link := s.link.pendLine }
  if breakAllowed new then judgeHold s1 else s1

/-- R109: a transmitter that stops cuts the character being framed, which is counted. -/
def cutFramer (s : State) : State :=
  { s with
    signal := { s.signal with framer := none }
    router := { s.router with
      discards := if s.signal.framer.isSome then countUp s.router.discards else s.router.discards } }

/-- R174: an entry to IDLE from these states empties the transmit queue. -/
def fromCall (c : Conn) : Bool :=
  match c.state with
  | .settle | .online | .fade | .clearing => true
  | .idle | .waitAnswer | .answering | .test => false

/-- The controller in a state with its four timers stopped. -/
def Conn.to (state : ConnState) (loop : LoopMode) (c : Conn) : Conn :=
  { c with state := state, loop := loop, connectTimer := none, settleTimer := none, dropoutTimer := none
           clearingTimer := none }

/-- R118: the monitor is restarted on leaving TEST. -/
def monitorAfterTest (s : State) : Monitor :=
  if s.conn.state = .test then s.monitor.restart s.now else s.monitor

/-- R129: an entry to IDLE. -/
def enterIdle (s : State) : State :=
  routerIdle (fromCall s.conn)
    (cutFramer (changeConn (s.conn.to .idle .normal) { s with monitor := monitorAfterTest s }))

/-- R125: an entry to FADE starts the dropout timer. -/
def enterFade (s : State) : State :=
  changeConn { s.conn.to .fade s.conn.loop with
    dropoutTimer := some (s.now + 1000 * s.monitor.dropoutHold) } s

/-- An entry to ONLINE. -/
def enterOnline (s : State) : State := changeConn (s.conn.to .online s.conn.loop) s

/-- R121: an entry to SETTLE starts the settle timer. -/
def enterSettle (s : State) : State :=
  changeConn { s.conn.to .settle s.conn.loop with settleTimer := some (s.now + Config.settleMarkTime) } s

/-- R126, R127: an entry to CLEARING starts the clearing timer and makes the loop mode NORMAL. -/
def enterClearing (s : State) : State :=
  changeConn { s.conn.to .clearing .normal with clearingTimer := some (s.now + Config.clearingTime) } s

/-- R121 to R125: a PRESENT transition, by the connect state. -/
def onPresent (s : State) : State :=
  match s.conn.state with
  | .waitAnswer => enterSettle s
  | .answering => enterOnline s
  | .fade => setLatch .carrierFaded (enterOnline s)
  | .idle | .settle | .online | .clearing | .test => s

/-- R124: an ABSENT transition, by the connect state. -/
def onAbsent (s : State) : State :=
  match s.conn.state with
  | .online => enterFade s
  | .idle | .waitAnswer | .answering | .settle | .fade | .clearing | .test => s

/-- R113: the end of a window. -/
def endWindow (s : State) : State :=
  let (m, tr) := windowJudged s
  let s1 := { s with monitor := m }
  match tr with
  | .none => s1
  | .present => onPresent s1
  | .absent => onAbsent s1

/-- R121, R122: the connect timer expires. -/
def endConnectTimer (s : State) : State := setLatch .connectFailed (enterIdle s)

/-- R123: the settle timer expires. -/
def endSettleTimer (s : State) : State := if s.monitor.present then enterOnline s else enterFade s

/-- R125: the dropout timer expires. -/
def endDropoutTimer (s : State) : State := setLatch .carrierDropped (enterIdle s)

/-! ### Commands (R120, R126, R131) -/

/-- R120: CONNECT in IDLE. -/
def openCall (role : Role) (s : State) : State :=
  changeConn
    { s.conn.to (match role with
        | .originate => .waitAnswer
        | .answer => .answering) s.conn.loop with
      role := role, connectTimer := some (s.now + 1000000 * s.monitor.connectTimeout) }
    { s with monitor := s.monitor.restart s.now }

/-- R126: DISCONNECT, by the connect state. -/
def closeCall (s : State) : State :=
  match s.conn.state with
  | .online | .fade => enterClearing s
  | .waitAnswer | .answering | .settle => enterIdle s
  | .clearing | .idle | .test => s

/-- R131, R132: entry to TEST with LOCAL TONE. -/
def enterLocalTone (s : State) : State :=
  changeConn { s.conn.to .test .localTone with role := .originate }
    { s with monitor := s.monitor.restart s.now }

/-- R131, R133: entry to TEST with LOCAL CHAR. -/
def enterLocalChar (s : State) : State :=
  changeConn (s.conn.to .test .localChar) { s with monitor := s.monitor.goIdle }

/-- R131: a change of loop mode within an open call is no change of connect state. -/
def setLoopMode (loop : LoopMode) (s : State) : State := { s with conn := { s.conn with loop := loop } }

/-- R131: SET LOOP, by the mode and the connect state; none where it is refused with STATE. -/
def setLoop (loop : LoopMode) (s : State) : Option State :=
  match loop, s.conn.state with
  | .localTone, .idle => some (enterLocalTone s)
  | .localChar, .idle => some (enterLocalChar s)
  | .normal, .test => some (enterIdle s)
  | .normal, .online => some (setLoopMode .normal s)
  | .normal, .fade => some (setLoopMode .normal s)
  | .remoteEcho, .online => some (setLoopMode .remoteEcho s)
  | .remoteEcho, .fade => some (setLoopMode .remoteEcho s)
  | _, _ => none

end Sys2Proof.Machine
end

