-- ==== Sys2Proof/Machine/Keyboard.lean ====
section
/-!
DEFINITION. The Keyboard Scanner: the matrix, debounce, refusals, layers, actions, repeat, the key queue and the beeper
(R136 to R151).
-/

namespace Sys2Proof.Machine

/-! ### The matrix (R136) -/

/-- R136: the contact at a drive line and a sense line is closed. -/
def contact (closed : List Nat) (drive sense : Nat) : Bool := closed.contains (drive * 9 + sense)

/-- R136: the sense lines that a closed key joins to one of these drive lines. -/
def sensesOf (closed : List Nat) (drives : List Nat) : List Nat :=
  (List.range 9).filter fun c => drives.any fun d => contact closed d c

/-- R136: the drive lines that a closed key joins to one of these sense lines. -/
def drivesOf (closed : List Nat) (senses : List Nat) : List Nat :=
  (List.range 8).filter fun d => senses.any fun c => contact closed d c

/-- R136: the drive lines joined to drive line `d` through chains of at most `n` further drive lines. -/
def joinedDrives (closed : List Nat) (d : Nat) : Nat → List Nat
  | 0 => [d]
  | n + 1 => drivesOf closed (sensesOf closed (joinedDrives closed d n))

/-- R136: the readings of drive line `d`, one for each sense line, true for down: a line reads down when a chain of closed
keys joins it to the drive line. Eight drive lines need chains of at most seven more. -/
def readings (closed : List Nat) (d : Nat) : List Bool :=
  let joined := sensesOf closed (joinedDrives closed d 7)
  (List.range 9).map fun c => joined.contains c

/-! ### Debounce (R138, R139) -/

/-- R138: what a reading of a position comes to. -/
inductive KeyEdge where
  | none | up | down
  deriving DecidableEq, Repr

/-- R138: a reading is compared with the debounced state. -/
def KeyRecord.debounce (limit : Nat) (down : Bool) (r : KeyRecord) : KeyRecord × KeyEdge :=
  if down = r.down then ({ r with count := 0, latest := down }, .none)
  else if limit ≤ r.count + 1 then
    ({ r with down := down, count := 0, latest := down }, if down then .down else .up)
  else ({ r with count := r.count + 1, latest := down }, .none)

/-- R139: a reading of the first pass after a reset: a position reading down is DOWN and refused, any other is UP. -/
def KeyRecord.firstReading (down : Bool) : KeyRecord :=
  { down := down, count := 0, refused := down, role := .none, latest := down }

/-- The record of a position. -/
def Keys.record (k : Keys) (p : Nat) : KeyRecord := k.records.getD p .reset

/-- The record of a position changed. -/
def Keys.mapRecord (p : Nat) (f : KeyRecord → KeyRecord) (k : Keys) : Keys := { k with records := k.records.modify p f }

/-- R137: the positions of a drive line with their readings. -/
def linePositions (d : Nat) (downs : List Bool) : List (Nat × Bool) := (List.range' (d * 9) 9).zip downs

/-- R138: the positions of a reading whose debounce comes to `edge`. -/
def Keys.edges (edge : KeyEdge) (ps : List (Nat × Bool)) (k : Keys) : List Nat :=
  (ps.filter fun (p, down) => decide (((k.record p).debounce k.debounce down).2 = edge)).map Prod.fst

/-- R138: every record of a reading debounced. -/
def Keys.debounceAll (ps : List (Nat × Bool)) (k : Keys) : Keys :=
  ps.foldl (fun k' (p, down) => k'.mapRecord p fun r => (r.debounce k.debounce down).1) k

/-- R139: every record of a reading of the first pass. -/
def Keys.firstAll (ps : List (Nat × Bool)) (k : Keys) : Keys :=
  ps.foldl (fun k' (p, down) => k'.mapRecord p fun _ => KeyRecord.firstReading down) k

/-! ### Ghosts and rollover (R141, R142) -/

/-- R141: a position is held down: debounced DOWN, refused or not, or its latest reading was down. -/
def Keys.heldDown (k : Keys) (p : Nat) : Bool := (k.record p).down || (k.record p).latest

/-- R141: a key-down completes a rectangle of held-down positions. -/
def Keys.isGhost (k : Keys) (p : Nat) : Bool :=
  (List.range 8).any fun d' => (List.range 9).any fun c' =>
    decide (d' ≠ p / 9) && decide (c' ≠ p % 9)
      && k.heldDown (p / 9 * 9 + c') && k.heldDown (d' * 9 + p % 9) && k.heldDown (d' * 9 + c')

/-- R142: the rollover limit. -/
def Keys.rolloverLimit (k : Keys) : Nat := if k.rolloverSix then 6 else 2

/-- R142: the positions DOWN with the role NON-MODIFIER. -/
def Keys.nonModifiersDown (k : Keys) : Nat :=
  (k.records.filter fun r => r.down && decide (r.role = .nonModifier)).length

/-- R144: a modifier is held while some DOWN position has it as its role. -/
def Keys.holds (role : KeyRole) (k : Keys) : Bool := k.records.any fun r => r.down && decide (r.role = role)

/-- R141: a key-down refused as a ghost is counted. -/
def Keys.refuseGhost (k : Keys) (p : Nat) : Keys :=
  { k.mapRecord p (fun r => { r with refused := true }) with ghosts := countUp k.ghosts }

/-- R142: a key-down refused under rollover. -/
def Keys.refuseRollover (k : Keys) (p : Nat) : Keys := k.mapRecord p fun r => { r with refused := true }

/-! ### Key-ups (R143, R149) -/

/-- R149: the repeat record emptied. -/
def Keys.stopRepeat (k : Keys) : Keys := { k with repeatKey := none, repeatCode := none, repeatTimer := none }

/-- R143: a key-up clears the position's refusal or its role; the repeat key's key-up stops repeat. -/
def Keys.keyUp (k : Keys) (p : Nat) : Keys :=
  let r := k.record p
  let k1 := k.mapRecord p fun r => { r with refused := false, role := .none }
  if !r.refused && decide (r.role = .nonModifier) && decide (k.repeatKey = some p) then k1.stopRepeat else k1

/-! ### The key queue and the beeper (R150, R151) -/

/-- R151: a click: 40 ms from the request, or the present end time if that is later. -/
def Keys.click (t : Micros) (k : Keys) : Keys :=
  { k with beeper := some (Beep.sound t (max ((k.beeper.map Beep.due).getD 0) (t + Config.clickTime)) k.beeper) }

/-- R150: a code is offered to the key queue: it joins, or it is lost, counted, latched and clicked for. -/
def offerKey (c : KeyChar) (s : State) : State :=
  if s.keys.queue.length < Config.keyQueueCap then { s with keys := { s.keys with queue := s.keys.queue ++ [c] } }
  else
    { s with
      keys := { s.keys.click s.now with keysLost := countUp s.keys.keysLost }
      link := s.link.setLatch .keyLost }

/-! ### Accepted key-downs (R144 to R146) -/

/-- A layer's entries. -/
def Keymap.layer (m : Keymap) : Layer → List KeyEntry
  | .plain => m.plain | .shift => m.shift | .ctrl => m.ctrl | .fn => m.fn

/-- The entry of a position in a layer. -/
def Keymap.entry (m : Keymap) (l : Layer) (p : Nat) : KeyEntry := (m.layer l).getD p .empty

/-- R145: the layer of a key-down, as the modifiers and the lock stand. -/
def Keys.layerFor (k : Keys) (p : Nat) : Layer :=
  if k.holds .fn then .fn
  else if k.holds .ctrl then .ctrl
  else if k.holds .shift then .shift
  else if k.lock && (k.keymap.entry .plain p).lockable then .shift
  else .plain

/-- R144: the role a modifier gives. -/
def Modifier.role : Modifier → KeyRole
  | .shift => .shift | .ctrl => .ctrl | .fn => .fn | .lock => .lock

/-- R144: a modifier's key-down is accepted. -/
def Keys.modifierDown (m : Modifier) (p : Nat) (k : Keys) : Keys :=
  { k.mapRecord p (fun r => { r with role := m.role }) with lock := if m = .lock then !k.lock else k.lock }

/-- R149: an accepted non-modifier key-down replaces the repeat record. -/
def Keys.newRepeat (p : Nat) (e : KeyEntry) (t : Micros) (k : Keys) : Keys :=
  match e.kind, e.repeats with
  | .char c, true =>
    { k with repeatKey := some p, repeatCode := some c, repeatTimer := some (t + 1000 * k.repeatDelay) }
  | _, _ => { k with repeatKey := some p, repeatCode := none, repeatTimer := none }

/-- R48, R146: a FEED action fills the pending key feed record, or is lost. -/
def keyFeedAction (s : State) : State := { s with fmt := { s.fmt with keyFeed := true } }

/-- R128, R146: the three actions. -/
def keyAction (a : KeyAction) (s : State) : State :=
  match a with
  | .sendBreak => if breakAllowed s.conn then startBreak s else s
  | .feed => keyFeedAction s
  | .pause => togglePause s

/-- R145: the acting entry acts. -/
def actEntry (e : KeyEntry) (s : State) : State :=
  match e.kind with
  | .char c => offerKey { code := c, repeated := false } s
  | .action a => keyAction a s
  | .none => s
  | .modifier _ => s

/-- R142, R144, R145: a key-down that is no ghost is judged for rollover and acts. -/
def keyDown (p : Nat) (s : State) : State :=
  match (s.keys.keymap.entry .plain p).kind with
  | .modifier m => { s with keys := s.keys.modifierDown m p }
  | _ =>
    if s.keys.rolloverLimit ≤ s.keys.nonModifiersDown then { s with keys := s.keys.refuseRollover p }
    else
      let e := s.keys.keymap.entry (s.keys.layerFor p) p
      actEntry e { s with
        keys := (s.keys.mapRecord p fun r => { r with role := .nonModifier }).newRepeat p e s.now }

/-! ### A reading (R140) -/

/-- R140: the key-ups and key-downs of a reading, in three steps. -/
def handleEdges (ups downs : List Nat) (s : State) : State :=
  let k1 := ups.foldl Keys.keyUp s.keys
  let ghosts := downs.filter k1.isGhost
  let s2 := { s with keys := ghosts.foldl Keys.refuseGhost k1 }
  (downs.filter fun p => !ghosts.contains p).foldl (fun s' p => keyDown p s') s2

/-- R137: the next reading is due half a millisecond on, of the next drive line; after the last the next pass begins. -/
def Keys.nextSlot (t : Micros) (k : Keys) : Keys :=
  { k with
    scanLine := (k.scanLine + 1) % 8
    firstPass := k.firstPass && decide (k.scanLine + 1 < 8)
    slot := some (t + Config.slotTime) }

/-- R137 to R140: the reading of the drive line that is due, with these contacts closed. -/
def scanReading (closed : List Nat) (s : State) : State :=
  let ps := linePositions s.keys.scanLine (readings closed s.keys.scanLine)
  let k := s.keys.nextSlot s.now
  if s.keys.firstPass then { s with keys := k.firstAll ps }
  else handleEdges (s.keys.edges .up ps) (s.keys.edges .down ps) { s with keys := k.debounceAll ps }

/-! ### Auto-repeat (R149) -/

/-- R149: the repeat interval in ms. -/
def repeatInterval (rate : Nat) : Nat := 1000 / rate

/-- R149: the repeat timer expires: the repeat is offered unless the key queue holds 4 or more, and the timer is restarted. -/
def endRepeat (s : State) : State :=
  let s1 := { s with keys := { s.keys with
    repeatTimer := some (s.now + 1000 * repeatInterval s.keys.repeatRate) } }
  match s.keys.repeatCode with
  | some c =>
    if s.keys.queue.length < Config.repeatSkipFill then offerKey { code := c, repeated := true } s1 else s1
  | none => s1

/-- R151: the beeper reaches its end time. -/
def endBeep (s : State) : State := { s with keys := { s.keys with beeper := none } }

end Sys2Proof.Machine
end

