-- ==== Sys2Proof/Machine/Operands.lean ====
section
/-!
DEFINITION. The operands of the commands: the byte codes of every enumeration, two-byte numbers, clamping, and the reading
of each payload (R180, R188, and the owning rules). A payload is read to `Except Reason`: the reason of the REJECT, or the
settings with whether a number was clamped.
-/

namespace Sys2Proof.Machine

/-! ### Numbers -/

/-- R188: a number of two bytes is sent low byte first. -/
def wordOf (low high : Byte) : Nat := low.toNat + 256 * high.toNat

/-- R188: the two bytes of a number, low byte first. -/
def wordBytes (n : Nat) : List Byte := [BitVec.ofNat 8 n, BitVec.ofNat 8 (n / 256)]

/-- A number as one byte of a payload. -/
def byteOf (n : Nat) : Byte := BitVec.ofNat 8 n

/-- A flag as a number, for the flag bytes of R189 and R190. -/
def flagBit (b : Bool) (bit : Nat) : Nat := if b then 2 ^ bit else 0

/-- Clamped (00_scope.md, Terms): a value outside its range is replaced by the nearest limit of the range. -/
def clampNat (low high n : Nat) : Nat := max low (min high n)

/-- The same for signed values. -/
def clampInt (low high n : Int) : Int := max low (min high n)

/-! ### Enumerations (R188) -/

/-- A switch: 00h off, 01h on; any other value names nothing. -/
def switchOf (b : Byte) : Option Bool :=
  if b = 0x00 then some false else if b = 0x01 then some true else none

/-- The resistance class. -/
def classOf (b : Byte) : Option HeadClass :=
  if b = 0x00 then some .a else if b = 0x01 then some .b else if b = 0x02 then some .c
  else if b = 0x03 then some .d else none

/-- The speed. -/
def speedOf (b : Byte) : Option Speed :=
  if b = 0x00 then some .b110 else if b = 0x01 then some .b150 else if b = 0x02 then some .b300 else none

/-- Data bits 7 or 8, as whether they are 8. -/
def dataBitsOf (b : Byte) : Option Bool :=
  if b = 0x07 then some false else if b = 0x08 then some true else none

/-- The parity. -/
def parityOf (b : Byte) : Option Parity :=
  if b = 0x00 then some .none else if b = 0x01 then some .even else if b = 0x02 then some .odd
  else if b = 0x03 then some .mark else if b = 0x04 then some .space else none

/-- Stop bits 1 or 2, as whether they are 2. -/
def stopBitsOf (b : Byte) : Option Bool :=
  if b = 0x01 then some false else if b = 0x02 then some true else none

/-- Depth 16 or 32, as whether it is 32. -/
def depthOf (b : Byte) : Option Bool :=
  if b = 0x10 then some false else if b = 0x20 then some true else none

/-- The threshold set, as whether it is NOISY. -/
def thresholdOf (b : Byte) : Option Bool := switchOf b

/-- The role. -/
def roleOf (b : Byte) : Option Role :=
  if b = 0x00 then some .originate else if b = 0x01 then some .answer else none

/-- The loop mode. -/
def loopOf (b : Byte) : Option LoopMode :=
  if b = 0x00 then some .normal else if b = 0x01 then some .localTone else if b = 0x02 then some .localChar
  else if b = 0x03 then some .remoteEcho else none

/-- The rollover mode, as whether it is SIX. -/
def rolloverOf (b : Byte) : Option Bool := switchOf b

/-- The keymap layer. -/
def layerOf (b : Byte) : Option Layer :=
  if b = 0x00 then some .plain else if b = 0x01 then some .shift else if b = 0x02 then some .ctrl
  else if b = 0x03 then some .fn else none

/-- The modifier a MODIFIER entry's value names. -/
def modifierOf (b : Byte) : Option Modifier :=
  if b = 0x00 then some .shift else if b = 0x01 then some .ctrl else if b = 0x02 then some .fn
  else if b = 0x03 then some .lock else none

/-- The action an ACTION entry's value names. -/
def actionOf (b : Byte) : Option KeyAction :=
  if b = 0x00 then some .sendBreak else if b = 0x01 then some .feed else if b = 0x02 then some .pause else none

/-- The kind of a keymap entry with its value; a NONE entry's value is 00h. -/
def keyKindOf (kind value : Byte) : Option KeyKind :=
  if kind = 0x00 then (if value = 0x00 then some .none else none)
  else if kind = 0x01 then some (.char value)
  else if kind = 0x02 then (modifierOf value).map .modifier
  else if kind = 0x03 then (actionOf value).map .action
  else none

/-- A keymap entry: bit 0 of the flags is REPEAT, bit 1 LOCKABLE, and no other bit may be set. -/
def keyEntryOf (kind value flags : Byte) : Option KeyEntry :=
  if flags &&& 0xFC = 0 then
    (keyKindOf kind value).map fun k => { kind := k, repeats := flags.getLsbD 0, lockable := flags.getLsbD 1 }
  else none

/-- A selector of CLEAR QUEUE. -/
inductive Selector where
  | stq | ptq | key
  deriving DecidableEq, Repr

/-- The selector. -/
def selectorOf (b : Byte) : Option Selector :=
  if b = 0x00 then some .stq else if b = 0x01 then some .ptq else if b = 0x02 then some .key else none

/-- The group of READ STATUS. -/
def groupOf (b : Byte) : Option Group :=
  if b = 0x00 then some .line else if b = 0x01 then some .print else if b = 0x02 then some .keys
  else if b = 0x03 then some .supply else none

/-- The sink set: bit 0 LINE, bit 1 PRINT, bit 2 LINK. -/
def sinkSetOf (b : Byte) : SinkSet :=
  { line := b.getLsbD 0, print := b.getLsbD 1, link := b.getLsbD 2 }

/-- R184: the report mask; a bit set outside the five kinds names nothing. -/
def maskOf (b : Byte) : Option ReportMask :=
  if b &&& 0xE0 = 0 then
    some { condition := b.getLsbD 0, lineState := b.getLsbD 1, rxData := b.getLsbD 2, keyData := b.getLsbD 3,
           space := b.getLsbD 4 }
  else none

/-! ### Payloads -/

/-- An answer to a payload: what it sets and whether a number was clamped. -/
abbrev Judged (α : Type) := Except Reason (α × Bool)

/-- R179: a payload of a length other than the kind's own is refused before any field is looked at. -/
def noPayload (p : List Byte) : Except Reason Unit :=
  match p with
  | [] => .ok ()
  | _ :: _ => .error .length

/-- R1: SET HEAD's fields, the lock apart. -/
def readHead (p : List Byte) : Judged HeadConfig :=
  match p with
  | [cls, w0, w1, dots] =>
    match classOf cls with
    | some named =>
      let width := clampNat 200 2500 (wordOf w0 w1)
      let count := clampNat 8 80 dots.toNat
      .ok ({ cls := named, maxWidth := width, maxDots := count }, width != wordOf w0 w1 || count != dots.toNat)
    | none => .error .range
  | _ => .error .length

/-- The three settings of SET DENSITY. -/
structure DensitySettings where
  density : Int
  hotRatio : Nat
  boost : Bool
  deriving DecidableEq, Repr

/-- R41: SET DENSITY's fields. H is rounded down to a multiple of 5 and then clamped. -/
def readDensity (p : List Byte) : Judged DensitySettings :=
  match p with
  | [d, h, boost] =>
    match switchOf boost with
    | some on =>
      let density := clampInt (-3) 3 d.toInt
      let ratio := clampNat 50 100 (h.toNat / 5 * 5)
      .ok ({ density := density, hotRatio := ratio, boost := on }, density != d.toInt || ratio != h.toNat)
    | none => .error .range
  | _ => .error .length

/-- R81, R164: PRINT TEXT and SEND TEXT carry 1 to 38 codes. -/
def readText (p : List Byte) : Except Reason (List Byte) :=
  if p = [] ∨ 38 < p.length then .error .length else .ok p

/-- R89: FEED's row count; 0 is raised to 1. -/
def readFeed (p : List Byte) : Judged Nat :=
  match p with
  | [n] => .ok (max 1 n.toNat, n = 0)
  | _ => .error .length

/-- R77: LOAD GLYPH's code, as 0 to 15 for 80h to 8Fh, and its ten rows. -/
def readGlyph (p : List Byte) : Except Reason (Nat × List Byte) :=
  match p with
  | code :: rows =>
    if rows.length = 10 then
      if 0x80 ≤ code.toNat ∧ code.toNat ≤ 0x8F then .ok (code.toNat - 0x80, rows) else .error .range
    else .error .length
  | [] => .error .length

/-- R96, steps 1, 2 and 4: SET LINE's settings. 110 bit/s with one stop bit becomes two. -/
def readLine (p : List Byte) : Judged LineFormat :=
  match p with
  | [speed, bits, parity, stops, depth, subst, code] =>
    match speedOf speed, dataBitsOf bits, parityOf parity, stopBitsOf stops, depthOf depth, switchOf subst with
    | some sp, some eight, some par, some two, some deep, some sub =>
      if par = .none ∧ eight = false then .error .range
      else
        let raised := decide (sp = .b110) && !two
        .ok ({ speed := sp, eightBits := eight, parity := par, twoStops := two || raised, deep := deep,
               substitution := sub, substitute := code }, raised)
    | _, _, _, _, _, _ => .error .range
  | _ => .error .length

/-- The four settings of SET CARRIER. -/
structure CarrierSettings where
  noisy : Bool
  weak : Bool
  dropoutHold : Nat
  connectTimeout : Nat
  deriving DecidableEq, Repr

/-- R119: SET CARRIER's fields. -/
def readCarrier (p : List Byte) : Judged CarrierSettings :=
  match p with
  | [set, weak, h0, h1, timeout] =>
    match thresholdOf set, switchOf weak with
    | some n, some w =>
      let hold := clampNat 200 2000 (wordOf h0 h1)
      let limit := clampNat 10 60 timeout.toNat
      .ok ({ noisy := n, weak := w, dropoutHold := hold, connectTimeout := limit },
        hold != wordOf h0 h1 || limit != timeout.toNat)
    | _, _ => .error .range
  | _ => .error .length

/-- A payload of one byte that names something. -/
def readNamed {α : Type} (name : Byte → Option α) (p : List Byte) : Except Reason α :=
  match p with
  | [b] => match name b with
    | some x => .ok x
    | none => .error .range
  | _ => .error .length

/-- The four settings of SET KEYS. -/
structure KeySettings where
  debounce : Nat
  rolloverSix : Bool
  repeatDelay : Nat
  repeatRate : Nat
  deriving DecidableEq, Repr

/-- R152: SET KEYS's fields. -/
def readKeys (p : List Byte) : Judged KeySettings :=
  match p with
  | [count, mode, d0, d1, rate] =>
    match rolloverOf mode with
    | some six =>
      let c := clampNat 2 8 count.toNat
      let d := clampNat 250 1000 (wordOf d0 d1)
      let r := clampNat 5 20 rate.toNat
      .ok ({ debounce := c, rolloverSix := six, repeatDelay := d, repeatRate := r },
        c != count.toNat || d != wordOf d0 d1 || r != rate.toNat)
    | none => .error .range
  | _ => .error .length

/-- R147: the entries of LOAD KEYMAP, three bytes each; none when some entry names nothing. -/
def readEntries : List Byte → Option (List KeyEntry)
  | kind :: value :: flags :: rest =>
    match keyEntryOf kind value flags, readEntries rest with
    | some e, some es => some (e :: es)
    | _, _ => none
  | _ => some []

/-- R147: LOAD KEYMAP's layer, first position and entries. -/
def readKeymap (p : List Byte) : Except Reason (Layer × Nat × List KeyEntry) :=
  match p with
  | layer :: first :: body =>
    if body.length % 3 = 0 ∧ 1 ≤ body.length / 3 ∧ body.length / 3 ≤ 12 then
      match layerOf layer, readEntries body with
      | some l, some es =>
        if first.toNat + es.length ≤ 72 then .ok (l, first.toNat, es) else .error .range
      | _, _ => .error .range
    else .error .length
  | _ => .error .length

/-- R156: SET ROUTES's three sink sets. A source may not have every sink. -/
def readRoutes (p : List Byte) : Except Reason (SinkSet × SinkSet × SinkSet) :=
  match p with
  | [rx, key, stq] =>
    if rx &&& 0xF9 = 0 ∧ key &&& 0xF8 = 0 ∧ stq &&& 0xFC = 0 then
      .ok (sinkSetOf rx, sinkSetOf key, sinkSetOf stq)
    else .error .range
  | _ => .error .length

/-- The four settings of SET FLOW. -/
structure FlowSettings where
  flowOn : Bool
  holdCode : Byte
  resumeCode : Byte
  holdTimeout : Nat
  deriving DecidableEq, Repr

/-- R168: a remote hold timeout of 0 stands for none; others are clamped to 5 to 120 s. -/
def clampTimeout (n : Nat) : Nat := if n = 0 then 0 else clampNat 5 120 n

/-- R168: SET FLOW's fields. -/
def readFlow (p : List Byte) : Judged FlowSettings :=
  match p with
  | [flow, hold, resume, timeout] =>
    match switchOf flow with
    | some on =>
      if hold = resume then .error .range
      else
        let t := clampTimeout timeout.toNat
        .ok ({ flowOn := on, holdCode := hold, resumeCode := resume, holdTimeout := t }, t != timeout.toNat)
    | none => .error .range
  | _ => .error .length

/-! ### SET FORMAT (R85, R188) -/

/-- The fields of a SET FORMAT as they stand in the payload, before they are judged. -/
structure RawFormat where
  left : Option Byte
  right : Option Byte
  wrap : Option Byte
  double : Option Byte
  mark : Option Byte
  tabs : Option (List Byte)
  formLength : Option Byte
  flushDelay : Option Nat
  deriving DecidableEq, Repr

/-- A field of one byte, taken from the rest of the payload when its presence bit is set. -/
def takeByte (present : Bool) (rest : List Byte) : Option (Option Byte × List Byte) :=
  if present then
    match rest with
    | b :: more => some (some b, more)
    | [] => none
  else some (none, rest)

/-- The tab stops: a count and then that many columns. -/
def takeTabs (present : Bool) (rest : List Byte) : Option (Option (List Byte) × List Byte) :=
  if present then
    match rest with
    | n :: more => if n.toNat ≤ more.length then some (some (more.take n.toNat), more.drop n.toNat) else none
    | [] => none
  else some (none, rest)

/-- The flush delay: two bytes. -/
def takeWord (present : Bool) (rest : List Byte) : Option (Option Nat × List Byte) :=
  if present then
    match rest with
    | low :: high :: more => some (some (wordOf low high), more)
    | _ => none
  else some (none, rest)

/-- R188: the fields present, in the order of their bits; none when the length is not exactly theirs. -/
def splitFormat (p : List Byte) : Option RawFormat :=
  match p with
  | [] => none
  | bits :: r0 =>
    (takeByte (bits.getLsbD 0) r0).bind fun (left, r1) =>
    (takeByte (bits.getLsbD 1) r1).bind fun (right, r2) =>
    (takeByte (bits.getLsbD 2) r2).bind fun (wrap, r3) =>
    (takeByte (bits.getLsbD 3) r3).bind fun (double, r4) =>
    (takeByte (bits.getLsbD 4) r4).bind fun (mark, r5) =>
    (takeTabs (bits.getLsbD 5) r5).bind fun (tabs, r6) =>
    (takeByte (bits.getLsbD 6) r6).bind fun (formLength, r7) =>
    (takeWord (bits.getLsbD 7) r7).bind fun (flushDelay, r8) =>
    if r8 = [] then
      some { left := left, right := right, wrap := wrap, double := double, mark := mark, tabs := tabs,
             formLength := formLength, flushDelay := flushDelay }
    else none

/-- R85: stops in strictly ascending order. -/
def ascending : List Byte → Bool
  | a :: b :: rest => decide (a.toNat < b.toNat) && ascending (b :: rest)
  | _ => true

/-- R85: a switch field names off or on, or is absent. -/
def switchGood (f : Option Byte) : Bool :=
  match f with
  | none => true
  | some b => (switchOf b).isSome

/-- R85: margins that cross as given are refused when both are given. -/
def marginsGood (left right : Option Byte) : Bool :=
  match left, right with
  | some l, some r => decide (l.toNat < r.toNat)
  | _, _ => true

/-- R85: at most 16 stops, strictly ascending. -/
def tabsGood (f : Option (List Byte)) : Bool :=
  match f with
  | none => true
  | some ts => decide (ts.length ≤ 16) && ascending ts

/-- R85: a flush delay of 0 as given, others clamped to 100 to 5000 ms. -/
def clampDelay (n : Nat) : Nat := if n = 0 then 0 else clampNat 100 5000 n

/-- R85: stops clamped to 39; stops made alike by the clamp are kept once. -/
def clampTabs (ts : List Byte) : List Nat :=
  let low := (ts.map BitVec.toNat).filter (fun n => decide (n < 39))
  if (ts.map BitVec.toNat).any (fun n => decide (39 ≤ n)) then low ++ [39] else low

/-- R85: whether a field present is moved by its clamp. -/
def movedBy {α : Type} (f : Option α) (changed : α → Bool) : Bool :=
  match f with
  | none => false
  | some x => changed x

/-- R85: SET FORMAT's fields, judged and clamped. -/
def readFormat (p : List Byte) : Judged FormatFields :=
  match splitFormat p with
  | none => .error .length
  | some r =>
    if switchGood r.wrap && switchGood r.double && marginsGood r.left r.right && tabsGood r.tabs then
      .ok ({ left := r.left.map fun b => min 38 b.toNat
             right := r.right.map fun b => min 39 b.toNat
             wrap := r.wrap.bind switchOf
             double := r.double.bind switchOf
             mark := r.mark.map fun b => min 39 b.toNat
             tabs := r.tabs.map clampTabs
             formLength := r.formLength.map BitVec.toNat
             flushDelay := r.flushDelay.map clampDelay },
           movedBy r.left (fun b => decide (38 < b.toNat)) || movedBy r.right (fun b => decide (39 < b.toNat))
             || movedBy r.mark (fun b => decide (39 < b.toNat))
             || movedBy r.tabs (fun ts => ts.any fun b => decide (39 < b.toNat))
             || movedBy r.flushDelay (fun n => clampDelay n != n))
    else .error .range

end Sys2Proof.Machine
end

