-- ==== Sys2Proof/Machine/Link.lean ====
section
/-!
DEFINITION. The frames the part sends: layouts of replies and reports, the status groups, and the arbiter of the link
transmitter (R180 to R193).
-/

namespace Sys2Proof.Machine

/-! ### Byte codes (R180, R186, R188 to R190) -/

/-- R180. -/
def Reason.code : Reason → Byte
  | .check => 0x01 | .length => 0x02 | .unknown => 0x03 | .torn => 0x04 | .range => 0x05 | .state => 0x06
  | .locked => 0x07

/-- R186. -/
def Cause.code : Cause → Byte
  | .power => 0x01 | .pin => 0x02 | .command => 0x03

/-- R188. -/
def Group.code : Group → Byte
  | .line => 0x00 | .print => 0x01 | .keys => 0x02 | .supply => 0x03

/-- R189. -/
def ConnState.code : ConnState → Byte
  | .idle => 0x00 | .waitAnswer => 0x01 | .answering => 0x02 | .settle => 0x03 | .online => 0x04 | .fade => 0x05
  | .clearing => 0x06 | .test => 0x07

/-- R188. -/
def LoopMode.code : LoopMode → Byte
  | .normal => 0x00 | .localTone => 0x01 | .localChar => 0x02 | .remoteEcho => 0x03

/-- R190. -/
def Owner.code : Owner → Byte
  | .none => 0x00 | .rx => 0x01 | .key => 0x02 | .stq => 0x03 | .ptq => 0x04

/-- R190. -/
def Activity.code : Activity → Byte
  | .ready => 0x00
  | .stalled => 0x01
  | .draining (.flush _) => 0x02
  | .draining (.formFeed _) => 0x03
  | .draining (.feed _ _) => 0x04

/-- R190. -/
def DriverState.code : DriverState → Byte
  | .unconfigured => 0x00 | .idle => 0x01 | .energizing => 0x02 | .burning => 0x03 | .stepping => 0x04
  | .settling => 0x05 | .paused => 0x06

/-- R190: the flow slot. -/
def slotCode (slot : Option FlowCode) : Byte :=
  match slot with
  | none => 0x00
  | some { kind := .hold, code := _ } => 0x01
  | some { kind := .resume, code := _ } => 0x02

/-- R189: the line flags. -/
def lineFlags (s : State) : Byte :=
  byteOf (flagBit s.monitor.present 0 + flagBit s.router.remoteHeld 1 + flagBit s.router.holdSent 2
    + flagBit s.router.pause 3)

/-- R190: the print flags. -/
def printFlags (s : State) : Byte :=
  byteOf (flagBit s.fmt.layout.wrap 0 + flagBit s.fmt.layout.double 1 + flagBit s.head.config.isSome 2)

/-- R190: the pause reasons. -/
def Reasons.code (r : Reasons) : Byte :=
  byteOf (flagBit r.hot 0 + flagBit r.starved 1 + flagBit r.batteryLow 2 + flagBit r.noPaper 3)

/-- R190: the key flags of the KEYS group. -/
def keyFlags (k : Keys) : Byte :=
  byteOf (flagBit k.lock 0 + flagBit (k.holds .shift) 1 + flagBit (k.holds .ctrl) 2 + flagBit (k.holds .fn) 3)

/-- R190: the valid flags. -/
def validFlags (u : Supply) : Byte :=
  byteOf (flagBit u.battery.valid 0 + flagBit u.temp.valid 1 + flagBit u.level.valid 2)

/-- R190: the indications. -/
def indications (u : Supply) : Byte :=
  byteOf (flagBit u.hot 0 + flagBit u.starved 1 + flagBit u.batteryLow 2)

/-- R190: the tab stops, one bit for each column 0 to 39, column 0 as bit 0 of the first byte. -/
def tabBytes (tabs : List Nat) : List Byte :=
  (List.range 5).map fun b => byteOf (((List.range 8).map fun i => flagBit (tabs.contains (8 * b + i)) i).sum)

/-! ### The status groups (R190) -/

/-- R112, R135, R175, R190: the LINE group. -/
def lineGroup (s : State) : List Byte :=
  [s.conn.state.code, lineFlags s, s.conn.loop.code, slotCode s.router.slot, byteOf s.router.store.length,
    byteOf s.router.txQueue.length]
  ++ wordBytes s.signal.received ++ wordBytes s.router.parityErrors ++ wordBytes s.router.framingErrors
  ++ wordBytes s.router.overruns ++ wordBytes s.signal.muted ++ wordBytes s.router.discards
  ++ wordBytes s.router.echoDrops

/-- R22, R73, R190: the PRINT group. -/
def printGroup (s : State) : List Byte :=
  [byteOf s.fmt.window.length, byteOf s.fmt.cursorLine, byteOf s.fmt.column, byteOf s.fmt.layout.mark, s.fmt.owner.code,
    s.fmt.activity.code, byteOf s.fmt.formCounter, byteOf s.fmt.ptq.length, byteOf s.fmt.stack.length,
    byteOf s.fmt.layout.left, byteOf s.fmt.layout.right, printFlags s, byteOf s.fmt.formLength]
  ++ wordBytes s.fmt.flushDelay ++ tabBytes s.fmt.layout.tabs
  ++ [s.head.state.code, s.head.reasons.code, byteOf s.head.queue.length]
  ++ wordBytes s.head.rowsBurned ++ wordBytes s.head.phasesBurned

/-- R153: keys down, the positions debounced DOWN. -/
def keysDown (k : Keys) : Nat := (k.records.filter KeyRecord.down).length

/-- R153, R190: the KEYS group. -/
def keysGroup (s : State) : List Byte :=
  [byteOf s.keys.queue.length, keyFlags s.keys, byteOf (keysDown s.keys)]
  ++ wordBytes s.keys.keysLost ++ wordBytes s.keys.ghosts

/-- R44: the head temperature as shown, 0 while its reading is invalid. -/
def shownTemp (u : Supply) : Byte := if u.temp.valid then BitVec.ofInt 8 (celsius u.temp.code) else 0

/-- R44: the battery voltage as shown. -/
def shownVolts (u : Supply) : Nat := if u.battery.valid then millivolts u.battery.code else 0

/-- R44: the line level as shown. -/
def shownLevel (u : Supply) : Byte := if u.level.valid then u.level.code else 0

/-- R44, R190: the SUPPLY group. -/
def supplyGroup (s : State) : List Byte :=
  wordBytes (shownVolts s.supply) ++ [shownTemp s.supply, shownLevel s.supply, validFlags s.supply]
  ++ wordBytes (iMax s) ++ wordBytes (reserved s) ++ [byteOf s.supply.lastLimit]
  ++ wordBytes s.supply.lastCold ++ wordBytes s.supply.lastHot ++ [indications s.supply]

/-- R193: a group's fields. -/
def groupBytes (g : Group) (s : State) : List Byte :=
  match g with
  | .line => lineGroup s | .print => printGroup s | .keys => keysGroup s | .supply => supplyGroup s

/-! ### Frames (R176, layouts) -/

/-- The check byte that makes kind, length, payload and check sum to 0 modulo 256. -/
def checkByte (kind : Byte) (payload : List Byte) : Byte :=
  -(kind + BitVec.ofNat 8 payload.length + payload.foldr (· + ·) 0)

/-- A frame: lead, kind, length, payload, check. -/
def frameOf (kind : Byte) (payload : List Byte) : List Byte :=
  [0xC3, kind, BitVec.ofNat 8 payload.length] ++ payload ++ [checkByte kind payload]

/-- R183: a frame begins to be sent; a frame of k bytes lasts k times 521 µs (log 7). -/
def sendFrame (kind : Byte) (payload : List Byte) (restart : Bool) (s : State) : State :=
  { s with link := { s.link with
      tx := some { bytes := frameOf kind payload
                   due := s.now + Config.byteTime * (payload.length + 4)
                   restart := restart } } }

/-! ### Replies (R180, R181, R186, R189, R192) -/

/-- R186: what the IDENTIFY reply carries. -/
def identifyPayload (s : State) : List Byte :=
  [0x00, 0x21, 0x41, 0x43, if s.head.config.isSome then 0x01 else 0x00, s.link.lastCause.code]

/-- R192: the cause byte of the READ CONDITIONS reply. -/
def keptCauseByte (k : LinkPort) : Byte :=
  match k.keptCause with
  | some c => if k.isSet .restarted then c.code else 0x00
  | none => 0x00

/-- R189, R192: what the READ CONDITIONS reply carries. -/
def conditionsPayload (k : LinkPort) : List Byte :=
  [0x00] ++ wordBytes k.latches.toNat ++ [keptCauseByte k]
  ++ wordBytes k.strayBytes ++ wordBytes k.unreadyFrames ++ wordBytes k.tornFrames

/-- R192: the latches, the kept cause and the CONDITION flag are cleared as the reply is built. -/
def LinkPort.clearConditions (k : LinkPort) : LinkPort :=
  { k with latches := 0, keptCause := none, pendCondition := false }

/-- R180: the kind of a reply. -/
def replyKind (kind : Byte) : Byte := kind + 0x80

/-- R181, R183: the frame of a reply begins; its content is built now. -/
def sendReply (r : Reply) (s : State) : State :=
  match r with
  | .done kind => sendFrame (replyKind kind) [0x00] false s
  | .clamped kind => sendFrame (replyKind kind) [0x01] false s
  | .partly kind count => sendFrame (replyKind kind) [0x02, byteOf count] false s
  | .reject kind reason => sendFrame 0x7F [kind, reason.code] false s
  | .identify => sendFrame 0x81 (identifyPayload s) false s
  | .conditions =>
    sendFrame 0x83 (conditionsPayload s.link) false { s with link := s.link.clearConditions }
  | .status g => sendFrame 0x84 ([0x00, g.code] ++ groupBytes g s) false s
  | .restart => sendFrame 0x82 [0x00] true s

/-! ### Reports (R184, R185, R189) -/

/-- R184: the CONDITION report carries the latch mask and clears nothing but its flag. -/
def sendCondition (s : State) : State :=
  sendFrame 0x61 (wordBytes s.link.latches.toNat) false
    { s with link := { s.link with pendCondition := false } }

/-- R184: the LINE STATE report. -/
def sendLineState (s : State) : State :=
  sendFrame 0x62 [s.conn.state.code, lineFlags s, s.conn.loop.code] false
    { s with link := { s.link with pendLineState := false } }

/-- R185: the RXDATA report takes up to 16 of the oldest entries of its queue. -/
def sendRxData (s : State) : State :=
  let taken := s.router.rxData.take Config.reportTake
  sendFrame 0x63 (byteOf taken.length :: taken) false
    { s with router := { s.router with rxData := s.router.rxData.drop Config.reportTake } }

/-- R189: a pair of code and key flags. -/
def keyPair (c : KeyChar) : List Byte := [c.code, if c.repeated then 0x01 else 0x00]

/-- R185: the KEYDATA report likewise. -/
def sendKeyData (s : State) : State :=
  let taken := s.router.keyData.take Config.reportTake
  sendFrame 0x64 (byteOf taken.length :: (taken.map keyPair).flatten) false
    { s with router := { s.router with keyData := s.router.keyData.drop Config.reportTake } }

/-- R184: the SPACE report carries the two free counts. -/
def sendSpace (s : State) : State :=
  sendFrame 0x65 [byteOf (Config.ptqCap - s.fmt.ptq.length), byteOf (Config.stqCap - s.router.stq.length)] false
    { s with link := { s.link with pendSpace := false } }

/-! ### The arbiter of the transmitter (R183) -/

/-- R183, rule 2: the pending report highest in the order, or nothing. -/
def sendReport (s : State) : State :=
  if s.link.pendCondition then sendCondition s
  else if s.link.pendLineState then sendLineState s
  else if rxDataPending s then sendRxData s
  else if keyDataPending s then sendKeyData s
  else if s.link.pendSpace then sendSpace s
  else s

/-- R183: an idle transmitter sends the oldest reply, else the highest pending report, else stays idle. -/
def kickLink (s : State) : State :=
  match s.link.tx with
  | some _ => s
  | none =>
    match s.link.replies with
    | r :: rest => sendReply r { s with link := { s.link with replies := rest } }
    | [] => sendReport s

end Sys2Proof.Machine
end

