-- ==== Sys2Proof/Machine/Reset.lean ====
section
/-!
DEFINITION. The two kinds of reset: taking effect, and ending (R194; with R23, R45, R74, R92, R112, R135, R154, R175, R187).
-/

namespace Sys2Proof.Machine

/-- R194: a reset takes effect: every block does what its own chapter states for reset, and is held. The moment, the waiting
commands and the level of the PAPER input are no part of any block. -/
def enterReset (cause : Cause) (config : Option HeadConfig) (ends : Timer) (s : State) : State :=
  { State.held cause config s.head.paper s.link with now := s.now, pending := s.pending, resetEnd := ends }

/-- R2, R194: a power-up reset leaves the head configuration not set. -/
def powerUp (s : State) : State := enterReset .power none none s

/-- R194: a general reset keeps the head configuration; a power-up reset in progress keeps its own cause. -/
def generalReset (cause : Cause) (ends : Timer) (s : State) : State :=
  enterReset (if s.resetting = some .power then .power else cause) s.head.config ends s

/-- R194, R195: the reset that RESTART asked for takes effect, and ends 1 ms later. -/
def restartReset (s : State) : State := generalReset .command (some (s.now + Config.restartTime)) s

/-- R187, R191, R194: the Link Port at the end of a reset: the last cause is written, the latches are cleared, and RESTARTED
sets with that cause. -/
def LinkPort.restarted (cause : Cause) (k : LinkPort) : LinkPort :=
  { k with latches := 0, lastCause := cause, keptCause := some cause }.setLatch .restarted

/-- R194: the reset ends: the converter, the scan, the first window and, if paper reads present, the paper-present timer
begin (R24, R137, R113, R20). -/
def endReset (cause : Cause) (s : State) : State :=
  { s with
    resetting := none
    resetEnd := none
    link := s.link.restarted cause
    supply := { s.supply with conversion := some (s.now + Config.conversionTime) }
    head := { s.head with paperTimer := if s.head.paper then some (s.now + Config.paperTime) else none }
    monitor := { s.monitor with window := some (s.now + Config.windowTime) }
    keys := { s.keys with slot := some (s.now + Config.slotTime) } }

/-- R194: the moment a reset ends: RESTART's ends at its own time, the others when the outside lets them. -/
def resetMoment (dt : Micros) (s : State) : State :=
  match s.resetEnd with
  | some due => atMoment due s
  | none => after dt s

end Sys2Proof.Machine
end

