-- ==== Sys2Proof/Machine/Ops.lean ====
section
/-!
DEFINITION. What the rows share: the judgements at the end of a row, the reception of frames, and the answering of commands
(R177 to R183).
-/

namespace Sys2Proof.Machine

/-! ### The end of a row (log 5, log 6) -/

/-- The judgements every row may owe when its own effect is done: the Tone Generator's output follows its causes (R95), the
formatter's stall and ownership are judged (R49, R51), an idle transmitter begins a frame (R183), and the formatter is judged
again, since a data report frees places of a link queue (R185). -/
def settleRow (s : State) : State := judgeFormatter (kickLink (judgeFormatter (settleTone s)))

/-- A row: nothing while a reset holds the part; else its effect, then the judgements of its end. -/
def row (f : State → State) (s : State) : Host.Outcome State Fault Refusal := unlessHeld (fun s => settleRow (f s)) s

/-- A row at the end of a timer: nothing at all while that timer is stopped (log 3). -/
def timerRow (t : State → Timer) (f : State → State) (s : State) : Host.Outcome State Fault Refusal :=
  match t s with
  | none => .next s
  | some due => row (fun s => f (atMoment due s)) s

/-! ### Receiving frames (R177, R178, R182) -/

/-- R181: a reply joins the reply queue. -/
def reply (r : Reply) (s : State) : State := { s with link := { s.link with replies := s.link.replies ++ [r] } }

/-- R177, R178: the receiver goes outside and its gap timer stops. -/
def closeFrame (s : State) : State := { s with link := { s.link with receiver := .outside, gap := none } }

/-- R182: an unready frame ends: it is discarded and counted. -/
def discardUnready (s : State) : State :=
  let s1 := closeFrame s
  { s1 with link := { s1.link with unreadyFrames := countUp s1.link.unreadyFrames } }

/-- R177: what the receiver has collected of a frame when its check byte is due. -/
def collected (kind : Byte) (payload : List Byte) : List Byte :=
  kind :: BitVec.ofNat 8 payload.length :: payload

/-- R177, R182: whether a frame of this kind and payload can complete now, and if so whether it is ready. Inside a frame, the
bytes collected must be its own. Outside, the whole frame is taken to have come in at this moment, and LRDY judges it
(log 4). -/
def frameReady (kind : Byte) (payload : List Byte) (s : State) : Option Bool :=
  match s.link.receiver with
  | .outside => some (lrdy s)
  | .inside isReady bytes => if bytes = collected kind payload then some isReady else none

/-- R179, R181, R182: a frame completes: a ready one is closed and `act` says what it does and which reply it gets; an unready
one is discarded and counted; a frame that cannot complete now changes nothing (log 3). -/
def complete (kind : Byte) (payload : List Byte) (act : State → State × Reply) (s : State) : State :=
  match frameReady kind payload s with
  | none => s
  | some false => discardUnready s
  | some true =>
    let (s1, r) := act (closeFrame s)
    reply r s1

/-- A command row: after `dt`, a frame of the kind completes and its owner judges and carries it out. -/
def commandRow (kind : Byte) (dt : Micros) (payload : List Byte) (act : State → State × Reply) (s : State) :
    Host.Outcome State Fault Refusal :=
  row (fun s => complete kind payload act (after dt s)) s

/-- R180: a command refused at its judgement changes nothing but the reply queue. -/
def answer {α : Type} (kind : Byte) (read : Except Reason α) (act : α → State → State × Reply) (s : State) :
    State × Reply :=
  match read with
  | .error reason => (s, .reject kind reason)
  | .ok x => act x s

/-- R180: DONE or CLAMPED. -/
def doneOr (kind : Byte) (clamped : Bool) : Reply := if clamped then .clamped kind else .done kind

/-! ### The end of a frame in other ways (R177, R178) -/

/-- R177: a length byte above 40 ends the frame at once. -/
def endByLength (s : State) : State :=
  match s.link.receiver with
  | .inside true [kind] => reply (.reject kind .length) (closeFrame s)
  | .inside false [_] => discardUnready s
  | _ => s

/-- R178: the kind of a torn frame: the kind byte as received, or 00h. -/
def tornKind (bytes : List Byte) : Byte := bytes.head?.getD 0x00

/-- R178: the gap timer expires inside a frame. -/
def tearFrame (s : State) : State :=
  match s.link.receiver with
  | .outside => { s with link := { s.link with gap := none } }
  | .inside false _ => discardUnready s
  | .inside true bytes =>
    let s1 := setLatch .linkTorn (reply (.reject (tornKind bytes) .torn) (closeFrame s))
    { s1 with link := { s1.link with tornFrames := countUp s1.link.tornFrames } }

/-- R177, R178: a byte that is a kind, a length of at most 40, or a payload byte still owed. -/
def frameByteFits (bytes : List Byte) (b : Byte) : Bool :=
  match bytes with
  | [] => true
  | [_] => decide (b.toNat ≤ 40)
  | _ :: len :: payload => decide (payload.length < len.toNat)

/-- R177, R178: a byte inside a frame is collected and restarts the gap timer. -/
def collectByte (b : Byte) (s : State) : State :=
  match s.link.receiver with
  | .inside isReady bytes =>
    if frameByteFits bytes b then
      { s with link := { s.link with
          receiver := .inside isReady (bytes ++ [b]), gap := some (s.now + Config.gapTime) } }
    else s
  | .outside => s

/-- R177, R178: a lead byte opens a frame, judged ready or unready from LRDY. -/
def openFrame (s : State) : State :=
  match s.link.receiver with
  | .outside =>
    { s with link := { s.link with receiver := .inside (lrdy s) [], gap := some (s.now + Config.gapTime) } }
  | .inside _ _ => s

/-- R177: a stray byte is discarded and counted. -/
def countStray (b : Byte) (s : State) : State :=
  match s.link.receiver with
  | .outside =>
    if b = 0xC3 then s else { s with link := { s.link with strayBytes := countUp s.link.strayBytes } }
  | .inside _ _ => s

/-- R182: an unready frame ends, in whichever way. Outside, a whole frame begun at this moment while LRDY is low is meant, as
for a command row (log 4). -/
def endUnready (s : State) : State :=
  match s.link.receiver with
  | .inside false _ => discardUnready s
  | .outside => if lrdy s then s else discardUnready s
  | .inside true _ => s

/-! ### The end of a frame being sent (R183, R195) -/

/-- R183, R195: the frame on LTXD ends; after RESTART's reply the general reset takes effect. -/
def endTxFrame (frame : TxFrame) (s : State) : State :=
  let s1 := { s with link := { s.link with tx := none } }
  if frame.restart then restartReset s1 else s1

end Sys2Proof.Machine
end

