-- ==== Sys2Proof/Machine/FormatterRows.lean ====
section
/-!
DEFINITION. The rows of the Print Formatter: the commands that feed the print text queue, LOAD GLYPH, and the formatter's own
takes, timers and drains (R46 to R92).
-/

namespace Sys2Proof.Machine

/-! ### The print text queue (R80 to R83) -/

/-- R80: the free places of the print text queue. -/
def ptqFree (s : State) : Nat := Config.ptqCap - s.fmt.ptq.length

/-- R81: the codes that fit join the queue; a rest left over sets the wanted flag. -/
def printText (codes : List Byte) (s : State) : State × Reply :=
  let count := min (ptqFree s) codes.length
  let all := decide (count = codes.length)
  ({ s with fmt := { s.fmt with
      ptq := s.fmt.ptq ++ (codes.take count).map .char
      ptqWanted := s.fmt.ptqWanted || !all } },
    if all then .done 0x0B else .partly 0x0B count)

/-- R81: PRINT TEXT's judgement and effect. -/
def actPrintText (payload : List Byte) : State → State × Reply := answer 0x0B (readText payload) printText

/-- PRINT TEXT (R81). -/
def execPrintText (dt : Micros) (payload : List Byte) (s : State) : Host.Outcome State Fault Refusal :=
  commandRow 0x0B dt payload (actPrintText payload) s

/-- R82, steps 3 and 4: a directive record joins the queue, or finds it full. -/
def placeDirective (kind : Byte) (clamped : Bool) (d : Directive) (s : State) : State × Reply :=
  if ptqFree s = 0 then ({ s with fmt := { s.fmt with ptqWanted := true } }, .partly kind 0)
  else ({ s with fmt := { s.fmt with ptq := s.fmt.ptq ++ [.directive d] } }, doneOr kind clamped)

/-- R82, R85: SET FORMAT's judgement and effect. -/
def actSetFormat (payload : List Byte) : State → State × Reply :=
  answer 0x0C (readFormat payload) fun (fields, clamped) => placeDirective 0x0C clamped (.setFormat fields)

/-- SET FORMAT (R85). -/
def execSetFormat (dt : Micros) (payload : List Byte) (s : State) : Host.Outcome State Fault Refusal :=
  commandRow 0x0C dt payload (actSetFormat payload) s

/-- R82: SAVE FORMAT's judgement and effect. -/
def actSaveFormat (payload : List Byte) : State → State × Reply :=
  answer 0x0D (noPayload payload) fun _ => placeDirective 0x0D false .saveFormat

/-- SAVE FORMAT (R82). -/
def execSaveFormat (dt : Micros) (payload : List Byte) (s : State) : Host.Outcome State Fault Refusal :=
  commandRow 0x0D dt payload (actSaveFormat payload) s

/-- R82: RESTORE FORMAT's judgement and effect. -/
def actRestoreFormat (payload : List Byte) : State → State × Reply :=
  answer 0x0E (noPayload payload) fun _ => placeDirective 0x0E false .restoreFormat

/-- RESTORE FORMAT (R82). -/
def execRestoreFormat (dt : Micros) (payload : List Byte) (s : State) : Host.Outcome State Fault Refusal :=
  commandRow 0x0E dt payload (actRestoreFormat payload) s

/-- R82, R89: FEED's judgement and effect. -/
def actFeed (payload : List Byte) : State → State × Reply :=
  answer 0x0F (readFeed payload) fun (rows, clamped) => placeDirective 0x0F clamped (.feed rows)

/-- FEED (R89). -/
def execFeed (dt : Micros) (payload : List Byte) (s : State) : Host.Outcome State Fault Refusal :=
  commandRow 0x0F dt payload (actFeed payload) s

/-! ### LOAD GLYPH (R77) -/

/-- R77: a soft pattern is replaced. -/
def loadGlyph (index : Nat) (rows : List Byte) (s : State) : State :=
  { s with fmt := { s.fmt with soft := s.fmt.soft.set index rows } }

/-- R77: LOAD GLYPH's judgement and effect. -/
def actLoadGlyph (payload : List Byte) : State → State × Reply :=
  answer 0x10 (readGlyph payload) fun (index, rows) s => (loadGlyph index rows s, .done 0x10)

/-- LOAD GLYPH (R77). -/
def execLoadGlyph (dt : Micros) (payload : List Byte) (s : State) : Host.Outcome State Fault Refusal :=
  commandRow 0x10 dt payload (actLoadGlyph payload) s

/-! ### Takes, timers and drains -/

/-- FORMATTER_TAKE_ITEM (R47, R48). -/
def execFormatterTakeItem (s : State) : Host.Outcome State Fault Refusal := row formatterTake s

/-- R50: the lapse timer expires, and ownership ends. -/
def endLapse (s : State) : State := { s with fmt := { s.fmt with owner := .none, lapse := none } }

/-- LAPSE_TIMER_EXPIRY (R50): the arbiter grants again at the end of the row. -/
def execLapseTimerExpiry (s : State) : Host.Outcome State Fault Refusal :=
  timerRow (fun s => s.fmt.lapse) endLapse s

/-- FLUSH_TIMER_EXPIRY (R71). -/
def execFlushTimerExpiry (s : State) : Host.Outcome State Fault Refusal :=
  timerRow (fun s => s.fmt.flush) endFlushTimer s

/-- DRAIN_COMMIT (R70). -/
def execDrainCommit (s : State) : Host.Outcome State Fault Refusal := row drainCommit s

/-- FORM_FEED_ENTRY_APPEND (R64). -/
def execFormFeedEntryAppend (s : State) : Host.Outcome State Fault Refusal := row formFeedAppend s

/-- FEED_ENTRY_APPEND (R90). -/
def execFeedEntryAppend (s : State) : Host.Outcome State Fault Refusal := row feedAppend s

end Sys2Proof.Machine
end

