-- ==== Sys2Proof/Machine/HeadRows.lean ====
section
/-!
DEFINITION. The rows of the Head Driver and the Supply Monitor: SET HEAD and SET DENSITY, the ends of their timers, pulses,
steps and conversions, and the paper sensor (R1 to R45).
-/

namespace Sys2Proof.Machine

/-! ### SET HEAD (R1, R5) and SET DENSITY (R41) -/

/-- R1, R5: the head configuration is set, the driver leaves UNCONFIGURED for IDLE, and with a waiting entry begins a row
cycle. -/
def configureHead (cfg : HeadConfig) (s : State) : State :=
  beginRow { s with head := { s.head with config := some cfg, state := .idle } }

/-- R1, R179: SET HEAD's judgement: the length, then the lock, then the class. -/
def judgeHead (payload : List Byte) (s : State) : Judged HeadConfig :=
  if payload.length = 4 then
    if s.head.config.isSome then .error .locked else readHead payload
  else .error .length

/-- R1: SET HEAD's judgement and effect. -/
def actSetHead (payload : List Byte) (s : State) : State × Reply :=
  answer 0x08 (judgeHead payload s) (fun (cfg, clamped) s => (configureHead cfg s, doneOr 0x08 clamped)) s

/-- SET HEAD (R1). -/
def execSetHead (dt : Micros) (payload : List Byte) (s : State) : Host.Outcome State Fault Refusal :=
  commandRow 0x08 dt payload (actSetHead payload) s

/-- R41: the three density settings are replaced. -/
def setDensity (d : DensitySettings) (s : State) : State :=
  { s with supply := { s.supply with density := d.density, hotRatio := d.hotRatio, boost := d.boost } }

/-- R41: SET DENSITY's judgement and effect. -/
def actSetDensity (payload : List Byte) : State → State × Reply :=
  answer 0x09 (readDensity payload) fun (d, clamped) s => (setDensity d s, doneOr 0x09 clamped)

/-- SET DENSITY (R41). -/
def execSetDensity (dt : Micros) (payload : List Byte) (s : State) : Host.Outcome State Fault Refusal :=
  commandRow 0x09 dt payload (actSetDensity payload) s

/-! ### Timers, pulses and steps -/

/-- ENERGIZING_TIMER_EXPIRY (R8). -/
def execEnergizingTimerExpiry (s : State) : Host.Outcome State Fault Refusal :=
  timerRow (fun s => s.head.energize) endEnergizing s

/-- HOLD_TIMER_EXPIRY (R9). -/
def execHoldTimerExpiry (s : State) : Host.Outcome State Fault Refusal :=
  timerRow (fun s => s.head.hold) endHold s

/-- R12: the end of loading, of a phase that is being loaded. -/
def loadDue (s : State) : Timer := s.head.phase.bind fun p => if p.loading then some p.due else none

/-- R12: the end of a pulse, of a phase that is being strobed. -/
def pulseDue (s : State) : Timer := s.head.phase.bind fun p => if p.loading then none else some p.due

/-- R12: what `f` does for the phase in progress. -/
def forPhase (f : Phase → State → State) (s : State) : State :=
  match s.head.phase with
  | none => s
  | some p => f p s

/-- LOADING_END (R12). -/
def execLoadingEnd (s : State) : Host.Outcome State Fault Refusal := timerRow loadDue (forPhase endLoading) s

/-- PULSE_END (R12, R13). -/
def execPulseEnd (s : State) : Host.Outcome State Fault Refusal := timerRow pulseDue (forPhase endPulse) s

/-- STEP_END (R15). -/
def execStepEnd (s : State) : Host.Outcome State Fault Refusal := timerRow (fun s => s.head.step) endStep s

/-- SETTLE_PERIOD_END (R17). -/
def execSettlePeriodEnd (s : State) : Host.Outcome State Fault Refusal :=
  timerRow (fun s => s.head.settle) endSettle s

/-! ### The paper sensor (R20) -/

/-- The PAPER input's level changes under a reset: the level is no state of the part's, and the timer is held (log 15). -/
def flipPaper (s : State) : State := { s with head := { s.head with paper := !s.head.paper } }

/-- PAPER_SENSOR_CHANGE (R20). -/
def execPaperSensorChange (dt : Micros) (s : State) : Host.Outcome State Fault Refusal :=
  if s.resetting.isSome then .next (flipPaper (after dt s)) else row (fun s => changePaper (after dt s)) s

/-- PAPER_PRESENT_TIMER_EXPIRY (R20). -/
def execPaperPresentTimerExpiry (s : State) : Host.Outcome State Fault Refusal :=
  timerRow (fun s => s.head.paperTimer) endPaperTimer s

/-! ### The converter (R24) -/

/-- CONVERTER_READING (R24). -/
def execConverterReading (code : Byte) (s : State) : Host.Outcome State Fault Refusal :=
  timerRow (fun s => s.supply.conversion) (endConversion code) s

end Sys2Proof.Machine
end

