-- ==== Sys2Proof/Machine/KeyRows.lean ====
section
/-!
DEFINITION. The rows of the Keyboard Scanner: SET KEYS, LOAD KEYMAP, the readings of the drive lines, auto-repeat and the
beeper (R136 to R154).
-/

namespace Sys2Proof.Machine

/-- R152: the four settings are replaced. -/
def setKeys (k : KeySettings) (s : State) : State :=
  { s with keys := { s.keys with
      debounce := k.debounce, rolloverSix := k.rolloverSix, repeatDelay := k.repeatDelay, repeatRate := k.repeatRate } }

/-- R152: SET KEYS' judgement and effect. -/
def actSetKeys (payload : List Byte) : State → State × Reply :=
  answer 0x18 (readKeys payload) fun (k, clamped) s => (setKeys k s, doneOr 0x18 clamped)

/-- SET KEYS (R152). -/
def execSetKeys (dt : Micros) (payload : List Byte) (s : State) : Host.Outcome State Fault Refusal :=
  commandRow 0x18 dt payload (actSetKeys payload) s

/-- R147: entries in the place of those from a position onward. -/
def replaceFrom (first : Nat) (new old : List KeyEntry) : List KeyEntry :=
  old.take first ++ new ++ old.drop (first + new.length)

/-- R147: the entries replace those of a layer from the first position onward. -/
def Keymap.replace (l : Layer) (first : Nat) (es : List KeyEntry) (m : Keymap) : Keymap :=
  match l with
  | .plain => { m with plain := replaceFrom first es m.plain }
  | .shift => { m with shift := replaceFrom first es m.shift }
  | .ctrl => { m with ctrl := replaceFrom first es m.ctrl }
  | .fn => { m with fn := replaceFrom first es m.fn }

/-- R147: the entries are loaded. -/
def loadKeymap (l : Layer) (first : Nat) (es : List KeyEntry) (s : State) : State :=
  { s with keys := { s.keys with keymap := s.keys.keymap.replace l first es } }

/-- R147: LOAD KEYMAP's judgement and effect. -/
def actLoadKeymap (payload : List Byte) : State → State × Reply :=
  answer 0x19 (readKeymap payload) fun (l, first, es) s => (loadKeymap l first es s, .done 0x19)

/-- LOAD KEYMAP (R147). -/
def execLoadKeymap (dt : Micros) (payload : List Byte) (s : State) : Host.Outcome State Fault Refusal :=
  commandRow 0x19 dt payload (actLoadKeymap payload) s

/-- SCAN_READING (R137 to R146), with the contacts that are closed at that moment (log 16). -/
def execScanReading (closed : List Nat) (s : State) : Host.Outcome State Fault Refusal :=
  timerRow (fun s => s.keys.slot) (scanReading closed) s

/-- REPEAT_TIMER_EXPIRY (R149). -/
def execRepeatTimerExpiry (s : State) : Host.Outcome State Fault Refusal :=
  timerRow (fun s => s.keys.repeatTimer) endRepeat s

/-- BEEPER_END_TIME (R151). -/
def execBeeperEndTime (s : State) : Host.Outcome State Fault Refusal :=
  timerRow (fun s => s.keys.beeper.map Beep.due) endBeep s

end Sys2Proof.Machine
end

