-- ==== Sys2Proof/Machine/LineRows.lean ====
section
/-!
DEFINITION. The rows of the coupler: SET LINE, SET CARRIER, the commands and timers of the connection, zero crossings, and
the moments of the Deframer, the Framer and the Carrier Monitor (R93 to R135).
-/

namespace Sys2Proof.Machine

/-! ### SET LINE (R96, R97, R106) -/

/-- R97, R106: the settings are replaced, the character in hand is abandoned, and a change of depth empties the store. -/
def setLine (f : LineFormat) (s : State) : State :=
  { s with
    format := f
    signal := { s.signal with deframer := s.signal.deframer.abandon s.signal.lineMark }
    router := { s.router with store := if f.deep = s.format.deep then s.router.store else [] } }

/-- R96: SET LINE's judgement and effect. -/
def actSetLine (payload : List Byte) : State → State × Reply :=
  answer 0x11 (readLine payload) fun (f, clamped) s =>
    if s.conn.state = .idle then (setLine f s, doneOr 0x11 clamped) else (s, .reject 0x11 .state)

/-- SET LINE (R96). -/
def execSetLine (dt : Micros) (payload : List Byte) (s : State) : Host.Outcome State Fault Refusal :=
  commandRow 0x11 dt payload (actSetLine payload) s

/-! ### SET CARRIER (R119) -/

/-- R119: the four settings are replaced. -/
def setCarrier (c : CarrierSettings) (s : State) : State :=
  { s with monitor := { s.monitor with
      noisy := c.noisy, weak := c.weak, dropoutHold := c.dropoutHold, connectTimeout := c.connectTimeout } }

/-- R119: SET CARRIER's judgement and effect. -/
def actSetCarrier (payload : List Byte) : State → State × Reply :=
  answer 0x12 (readCarrier payload) fun (c, clamped) s => (setCarrier c s, doneOr 0x12 clamped)

/-- SET CARRIER (R119). -/
def execSetCarrier (dt : Micros) (payload : List Byte) (s : State) : Host.Outcome State Fault Refusal :=
  commandRow 0x12 dt payload (actSetCarrier payload) s

/-! ### CONNECT, DISCONNECT, BREAK, SET LOOP -/

/-- R120: CONNECT's judgement and effect. -/
def actConnect (payload : List Byte) : State → State × Reply :=
  answer 0x13 (readNamed roleOf payload) fun role s =>
    if s.conn.state = .idle then (openCall role s, .done 0x13) else (s, .reject 0x13 .state)

/-- CONNECT (R120). -/
def execConnect (dt : Micros) (payload : List Byte) (s : State) : Host.Outcome State Fault Refusal :=
  commandRow 0x13 dt payload (actConnect payload) s

/-- R126: DISCONNECT's judgement and effect. -/
def actDisconnect (payload : List Byte) : State → State × Reply :=
  answer 0x14 (noPayload payload) fun _ s => (closeCall s, .done 0x14)

/-- DISCONNECT (R126). -/
def execDisconnect (dt : Micros) (payload : List Byte) (s : State) : Host.Outcome State Fault Refusal :=
  commandRow 0x14 dt payload (actDisconnect payload) s

/-- R128: BREAK's judgement and effect. -/
def actBreak (payload : List Byte) : State → State × Reply :=
  answer 0x15 (noPayload payload) fun _ s =>
    if breakAllowed s.conn then (startBreak s, .done 0x15) else (s, .reject 0x15 .state)

/-- BREAK (R128). -/
def execSendBreak (dt : Micros) (payload : List Byte) (s : State) : Host.Outcome State Fault Refusal :=
  commandRow 0x15 dt payload (actBreak payload) s

/-- R131: SET LOOP's judgement and effect. -/
def actSetLoop (payload : List Byte) : State → State × Reply :=
  answer 0x16 (readNamed loopOf payload) fun loop s =>
    match setLoop loop s with
    | some s1 => (s1, .done 0x16)
    | none => (s, .reject 0x16 .state)

/-- SET LOOP (R131). -/
def execSetLoop (dt : Micros) (payload : List Byte) (s : State) : Host.Outcome State Fault Refusal :=
  commandRow 0x16 dt payload (actSetLoop payload) s

/-! ### The received signal -/

/-- HALF_PERIOD_END (R98, R99, R100). In TEST with LOCAL TONE it is the next crossing of the part's own wave, at that wave's own
moment (R94, R132, log 17). -/
def execHalfPeriodEnd (dt : Micros) (s : State) : Host.Outcome State Fault Refusal :=
  row (inputCrossing dt) s

/-- CELL_CENTRE (R100). -/
def execCellCentre (s : State) : Host.Outcome State Fault Refusal := row centreReached s

/-- CHARACTER_FINISHED (R102, R103). -/
def execCharacterFinished (s : State) : Host.Outcome State Fault Refusal := row characterFinished s

/-- BREAK_WATCH_END (R103). -/
def execBreakWatchEnd (s : State) : Host.Outcome State Fault Refusal := row breakWatchEnd s

/-- CARRIER_WINDOW_END (R113 to R117). -/
def execCarrierWindowEnd (s : State) : Host.Outcome State Fault Refusal :=
  timerRow (fun s => s.monitor.window) endWindow s

/-! ### The sent signal -/

/-- FRAMER_TAKE (R107). -/
def execFramerTake (s : State) : Host.Outcome State Fault Refusal := row framerTake s

/-- CELL_BOUNDARY (R108). -/
def execCellBoundary (s : State) : Host.Outcome State Fault Refusal := row cellBoundary s

/-- FRAMER_CHARACTER_END (R108, R111). -/
def execFramerCharacterEnd (s : State) : Host.Outcome State Fault Refusal := row framerCharacterEnd s

/-- BREAK_TIMER_EXPIRY (R110). -/
def execBreakTimerExpiry (s : State) : Host.Outcome State Fault Refusal :=
  timerRow (fun s => s.signal.breakTimer) endBreak s

/-- BREAK_MARK_END (R110). -/
def execBreakMarkEnd (s : State) : Host.Outcome State Fault Refusal :=
  timerRow (fun s => s.signal.markTimer) endMark s

/-! ### The timers of the connection -/

/-- CONNECT_TIMER_EXPIRY (R121, R122). -/
def execConnectTimerExpiry (s : State) : Host.Outcome State Fault Refusal :=
  timerRow (fun s => s.conn.connectTimer) endConnectTimer s

/-- SETTLE_TIMER_EXPIRY (R123). -/
def execSettleTimerExpiry (s : State) : Host.Outcome State Fault Refusal :=
  timerRow (fun s => s.conn.settleTimer) endSettleTimer s

/-- DROPOUT_TIMER_EXPIRY (R125). -/
def execDropoutTimerExpiry (s : State) : Host.Outcome State Fault Refusal :=
  timerRow (fun s => s.conn.dropoutTimer) endDropoutTimer s

/-- CLEARING_TIMER_EXPIRY (R127). -/
def execClearingTimerExpiry (s : State) : Host.Outcome State Fault Refusal :=
  timerRow (fun s => s.conn.clearingTimer) enterIdle s

end Sys2Proof.Machine
end

