-- ==== Sys2Proof/WellFormed.lean ====
section
/-!
DEFINITION. Which terms of Instr are commands and events at all: a frame's payload is 0 to 40 bytes, and the operands of
the link rows are what the row's own name says of them (R177, R179).
-/

namespace Sys2Proof

/-- R188: the kinds of commands. -/
def commandKinds : List Byte :=
  [0x01, 0x02, 0x03, 0x04, 0x05, 0x08, 0x09, 0x0B, 0x0C, 0x0D, 0x0E, 0x0F, 0x10, 0x11, 0x12, 0x13, 0x14, 0x15, 0x16,
    0x18, 0x19, 0x1A, 0x1B, 0x1C, 0x1D]

/-- R177: a frame's payload is 0 to 40 bytes. -/
def payloadFits (payload : List Byte) : Bool := payload.length ≤ 40

/-- R179: the sum of the kind, the length, the payload and the check byte, modulo 256. -/
def frameSum (kind : Byte) (payload : List Byte) (check : Byte) : Byte :=
  kind + BitVec.ofNat 8 payload.length + payload.foldr (· + ·) 0 + check

/-- The terms that stand for a command or an event. -/
def WellFormed : Instr → Bool
  | .identify _ p | .restart _ p | .readConditions _ p | .readStatus _ p | .setReports _ p | .setHead _ p
  | .setDensity _ p | .printText _ p | .setFormat _ p | .saveFormat _ p | .restoreFormat _ p | .feed _ p
  | .loadGlyph _ p | .setLine _ p | .setCarrier _ p | .connect _ p | .disconnect _ p | .sendBreak _ p
  | .setLoop _ p | .setKeys _ p | .loadKeymap _ p | .sendText _ p | .setRoutes _ p | .setFlow _ p
  | .clearQueue _ p => payloadFits p
  | .unknownKindFrame _ k p => payloadFits p && !commandKinds.contains k
  | .strayByte _ b => b != 0xC3
  | .lengthByteAbove40 _ b => decide (40 < b.toNat)
  | .wrongCheckByte _ k p c => payloadFits p && frameSum k p c != 0
  | .scanReading closed => closed.all fun p => decide (p < 72)
  | .leadByte _ | .unreadyFrame _ | .gapTimerExpiry | .linkFrameEnd | .powerUpReset _ | .generalResetFromPin _
  | .resetEnd _ | .energizingTimerExpiry | .holdTimerExpiry | .loadingEnd | .pulseEnd | .stepEnd | .settlePeriodEnd
  | .paperSensorChange _ | .paperPresentTimerExpiry | .converterReading _ | .formatterTakeItem | .lapseTimerExpiry
  | .flushTimerExpiry | .drainCommit | .formFeedEntryAppend | .feedEntryAppend | .halfPeriodEnd _
  | .characterFinished | .breakWatchEnd | .framerTake | .framerCharacterEnd | .breakTimerExpiry | .breakMarkEnd
  | .carrierWindowEnd | .connectTimerExpiry | .settleTimerExpiry | .dropoutTimerExpiry | .clearingTimerExpiry
  | .remoteHoldTimerExpiry | .routerTake _ | .repeatTimerExpiry | .beeperEndTime | .cellCentre | .cellBoundary
  | .frameByteReceived _ _ => true

end Sys2Proof
end

