-- ==== Sys2Proof/Machine/LinkRows.lean ====
section
/-!
DEFINITION. The rows of the Link Port: its own commands, the bytes and frames that arrive, the gap timer, and the end of a
frame it sends (R176 to R187, R191 to R195).
-/

namespace Sys2Proof.Machine

/-! ### IDENTIFY, RESTART, READ CONDITIONS, READ STATUS -/

/-- R186: IDENTIFY's judgement and effect. -/
def actIdentify (payload : List Byte) : State → State × Reply :=
  answer 0x01 (noPayload payload) fun _ s => (s, .identify)

/-- IDENTIFY (R186): the reply is queued; its content is built when its frame begins. -/
def execIdentify (dt : Micros) (payload : List Byte) (s : State) : Host.Outcome State Fault Refusal :=
  commandRow 0x01 dt payload (actIdentify payload) s

/-- R182, R195: RESTART's judgement and effect: a reset is owed, and LRDY falls. -/
def actRestart (payload : List Byte) : State → State × Reply :=
  answer 0x02 (noPayload payload) fun _ s => ({ s with link := { s.link with restartOwed := true } }, .restart)

/-- RESTART (R195). -/
def execRestart (dt : Micros) (payload : List Byte) (s : State) : Host.Outcome State Fault Refusal :=
  commandRow 0x02 dt payload (actRestart payload) s

/-- R192: READ CONDITIONS' judgement and effect. -/
def actReadConditions (payload : List Byte) : State → State × Reply :=
  answer 0x03 (noPayload payload) fun _ s => (s, .conditions)

/-- READ CONDITIONS (R192): the latches are read and cleared when the reply frame begins. -/
def execReadConditions (dt : Micros) (payload : List Byte) (s : State) : Host.Outcome State Fault Refusal :=
  commandRow 0x03 dt payload (actReadConditions payload) s

/-- R193: READ STATUS's judgement and effect. -/
def actReadStatus (payload : List Byte) : State → State × Reply :=
  answer 0x04 (readNamed groupOf payload) fun g s => (s, .status g)

/-- READ STATUS (R193): the group is read when the reply frame begins. -/
def execReadStatus (dt : Micros) (payload : List Byte) (s : State) : Host.Outcome State Fault Refusal :=
  commandRow 0x04 dt payload (actReadStatus payload) s

/-! ### SET REPORTS (R184, log 22) -/

/-- R184: the mask is replaced. A kind whose bit is cleared loses its pending flag, and CONDITION, newly enabled while any
latch is set, becomes pending. RXDATA and KEYDATA follow their queues (R185). -/
def LinkPort.replaceMask (m : ReportMask) (k : LinkPort) : LinkPort :=
  { k with
    mask := m
    pendCondition := m.condition && (k.pendCondition || (!k.mask.condition && decide (k.latches ≠ 0)))
    pendLineState := m.lineState && k.pendLineState
    pendSpace := m.space && k.pendSpace }

/-- R184: SET REPORTS' judgement and effect. -/
def actSetReports (payload : List Byte) : State → State × Reply :=
  answer 0x05 (readNamed maskOf payload) fun m s => ({ s with link := s.link.replaceMask m }, .done 0x05)

/-- SET REPORTS (R184). -/
def execSetReports (dt : Micros) (payload : List Byte) (s : State) : Host.Outcome State Fault Refusal :=
  commandRow 0x05 dt payload (actSetReports payload) s

/-! ### Frames that are no command -/

/-- R179, step 2: a frame whose kind is no command's completes. -/
def rejectUnknown (kind : Byte) (payload : List Byte) (s : State) : State :=
  if commandKinds.contains kind then s else complete kind payload (fun s => (s, .reject kind .unknown)) s

/-- UNKNOWN_KIND_FRAME (R179). -/
def execUnknownKindFrame (dt : Micros) (kind : Byte) (payload : List Byte) (s : State) :
    Host.Outcome State Fault Refusal :=
  row (fun s => rejectUnknown kind payload (after dt s)) s

/-- R179, step 1: a frame whose check byte is wrong completes. -/
def rejectCheck (kind : Byte) (payload : List Byte) (check : Byte) (s : State) : State :=
  if frameSum kind payload check = 0 then s else complete kind payload (fun s => (s, .reject kind .check)) s

/-- WRONG_CHECK_BYTE (R179). -/
def execWrongCheckByte (dt : Micros) (kind : Byte) (payload : List Byte) (check : Byte) (s : State) :
    Host.Outcome State Fault Refusal :=
  row (fun s => rejectCheck kind payload check (after dt s)) s

/-- STRAY_BYTE (R177). -/
def execStrayByte (dt : Micros) (byte : Byte) (s : State) : Host.Outcome State Fault Refusal :=
  row (fun s => countStray byte (after dt s)) s

/-- LEAD_BYTE (R177). -/
def execLeadByte (dt : Micros) (s : State) : Host.Outcome State Fault Refusal :=
  row (fun s => openFrame (after dt s)) s

/-- FRAME_BYTE_RECEIVED (R177). -/
def execFrameByteReceived (dt : Micros) (byte : Byte) (s : State) : Host.Outcome State Fault Refusal :=
  row (fun s => collectByte byte (after dt s)) s

/-- R177: a length byte ends the frame only when it is above 40. -/
def longLength (byte : Byte) (s : State) : State := if 40 < byte.toNat then endByLength s else s

/-- LENGTH_BYTE_ABOVE_40 (R177). -/
def execLengthByteAbove40 (dt : Micros) (byte : Byte) (s : State) : Host.Outcome State Fault Refusal :=
  row (fun s => longLength byte (after dt s)) s

/-- UNREADY_FRAME (R182). -/
def execUnreadyFrame (dt : Micros) (s : State) : Host.Outcome State Fault Refusal :=
  row (fun s => endUnready (after dt s)) s

/-- GAP_TIMER_EXPIRY (R178). -/
def execGapTimerExpiry (s : State) : Host.Outcome State Fault Refusal :=
  timerRow (fun s => s.link.gap) tearFrame s

/-- R183, R195: the frame on LTXD, if one is being sent, ends. -/
def endFrame (s : State) : State :=
  match s.link.tx with
  | none => s
  | some frame => endTxFrame frame s

/-- LINK_FRAME_END (R183, R195): the frame ends, and at the end of the row the arbiter chooses the next. -/
def execLinkFrameEnd (s : State) : Host.Outcome State Fault Refusal :=
  timerRow (fun s => s.link.tx.map TxFrame.due) endFrame s

end Sys2Proof.Machine
end

