-- ==== Sys2Proof/Machine/ResetRows.lean ====
section
/-!
DEFINITION. The rows of the two kinds of reset (R194, R195). They act whether or not a reset is in progress.
-/

namespace Sys2Proof.Machine

/-- POWER_UP_RESET (R194). -/
def execPowerUpReset (dt : Micros) (s : State) : Host.Outcome State Fault Refusal := .next (powerUp (after dt s))

/-- GENERAL_RESET_FROM_PIN (R194). -/
def execGeneralResetFromPin (dt : Micros) (s : State) : Host.Outcome State Fault Refusal :=
  .next (generalReset .pin none (after dt s))

/-- RESET_END (R194, R196): the reset in progress ends, and the CONDITION report begins at that moment. With no reset in
progress nothing changes (log 3). -/
def execResetEnd (dt : Micros) (s : State) : Host.Outcome State Fault Refusal :=
  match s.resetting with
  | none => .next s
  | some cause => .next (settleRow (endReset cause (resetMoment dt s)))

end Sys2Proof.Machine
end

