-- ==== Sys2Proof/Machine/RouterRows.lean ====
section
/-!
DEFINITION. The rows of the Traffic Router: SEND TEXT, SET ROUTES, SET FLOW, CLEAR QUEUE, its takes and the remote hold timer
(R155 to R175).
-/

namespace Sys2Proof.Machine

/-! ### SEND TEXT (R164) -/

/-- R164: the free places of the send text queue. -/
def stqFree (s : State) : Nat := Config.stqCap - s.router.stq.length

/-- R164: the codes that fit join the queue; a rest left over sets the wanted flag. -/
def sendText (codes : List Byte) (s : State) : State × Reply :=
  let count := min (stqFree s) codes.length
  let all := decide (count = codes.length)
  ({ s with router := { s.router with
      stq := s.router.stq ++ codes.take count
      stqWanted := s.router.stqWanted || !all } },
    if all then .done 0x1A else .partly 0x1A count)

/-- R164: SEND TEXT's judgement and effect. -/
def actSendText (payload : List Byte) : State → State × Reply := answer 0x1A (readText payload) sendText

/-- SEND TEXT (R164). -/
def execSendText (dt : Micros) (payload : List Byte) (s : State) : Host.Outcome State Fault Refusal :=
  commandRow 0x1A dt payload (actSendText payload) s

/-! ### SET ROUTES (R156) -/

/-- R156: the three sets replace the table together. -/
def setRoutes (rx key stq : SinkSet) (s : State) : State :=
  { s with router := { s.router with rxRoute := rx, keyRoute := key, stqRoute := stq } }

/-- R156: SET ROUTES' judgement and effect. -/
def actSetRoutes (payload : List Byte) : State → State × Reply :=
  answer 0x1B (readRoutes payload) fun (rx, key, stq) s => (setRoutes rx key stq s, .done 0x1B)

/-- SET ROUTES (R156). -/
def execSetRoutes (dt : Micros) (payload : List Byte) (s : State) : Host.Outcome State Fault Refusal :=
  commandRow 0x1B dt payload (actSetRoutes payload) s

/-! ### SET FLOW (R168, R172) -/

/-- R168: the codes and the timeout are replaced, and the flow switch is left to R172. -/
def setFlowCodes (f : FlowSettings) (s : State) : State :=
  { s with router := { s.router with
      holdCode := f.holdCode, resumeCode := f.resumeCode, holdTimeout := f.holdTimeout } }

/-- R172: the flow switch turned on is a moment of judgement. -/
def turnFlowOn (s : State) : State := judgeHold { s with router := { s.router with flowOn := true } }

/-- R168, R172: SET FLOW carried out: the settings first, then the change of the switch, if it is one (log 10). -/
def setFlow (f : FlowSettings) (s : State) : State :=
  let s1 := setFlowCodes f s
  if f.flowOn = s.router.flowOn then s1 else if f.flowOn then turnFlowOn s1 else turnFlowOff s1

/-- R168: SET FLOW's judgement and effect. -/
def actSetFlow (payload : List Byte) : State → State × Reply :=
  answer 0x1C (readFlow payload) fun (f, clamped) s => (setFlow f s, doneOr 0x1C clamped)

/-- SET FLOW (R168). -/
def execSetFlow (dt : Micros) (payload : List Byte) (s : State) : Host.Outcome State Fault Refusal :=
  commandRow 0x1C dt payload (actSetFlow payload) s

/-! ### CLEAR QUEUE (R167) -/

/-- R84, R150, R167: the selected queue is emptied; a wanted flag that was set clears (R83, R165). -/
def clearQueue (q : Selector) (s : State) : State :=
  match q with
  | .stq => checkStqRoom { s with router := { s.router with stq := [] } }
  | .ptq => checkPtqRoom { s with fmt := { s.fmt with ptq := [] } }
  | .key => { s with keys := { s.keys with queue := [] } }

/-- R167: CLEAR QUEUE's judgement and effect. -/
def actClearQueue (payload : List Byte) : State → State × Reply :=
  answer 0x1D (readNamed selectorOf payload) fun q s => (clearQueue q s, .done 0x1D)

/-- CLEAR QUEUE (R167). -/
def execClearQueue (dt : Micros) (payload : List Byte) (s : State) : Host.Outcome State Fault Refusal :=
  commandRow 0x1D dt payload (actClearQueue payload) s

/-! ### Takes and the remote hold timer -/

/-- ROUTER_TAKE (R158). -/
def execRouterTake (source : Source) (s : State) : Host.Outcome State Fault Refusal := row (takeIfReady source) s

/-- REMOTE_HOLD_TIMER_EXPIRY (R169). -/
def execRemoteHoldTimerExpiry (s : State) : Host.Outcome State Fault Refusal :=
  timerRow (fun s => s.router.remoteTimer) endRemoteTimer s

end Sys2Proof.Machine
end

