-- ==== Sys2Proof/Machine/Dispatch.lean ====
section
/-!
DEFINITION. One arm for each command or event: a direct call of its meaning.
-/

namespace Sys2Proof.Machine

/-- The effect of a command or an event on everything but the queue of those that wait. -/
def exec (i : Instr) (s : State) : Host.Outcome State Fault Refusal :=
  match i with
  | .identify dt p => Sys2Proof.Machine.execIdentify dt p s
  | .restart dt p => Sys2Proof.Machine.execRestart dt p s
  | .readConditions dt p => Sys2Proof.Machine.execReadConditions dt p s
  | .readStatus dt p => Sys2Proof.Machine.execReadStatus dt p s
  | .setReports dt p => Sys2Proof.Machine.execSetReports dt p s
  | .setHead dt p => Sys2Proof.Machine.execSetHead dt p s
  | .setDensity dt p => Sys2Proof.Machine.execSetDensity dt p s
  | .printText dt p => Sys2Proof.Machine.execPrintText dt p s
  | .setFormat dt p => Sys2Proof.Machine.execSetFormat dt p s
  | .saveFormat dt p => Sys2Proof.Machine.execSaveFormat dt p s
  | .restoreFormat dt p => Sys2Proof.Machine.execRestoreFormat dt p s
  | .feed dt p => Sys2Proof.Machine.execFeed dt p s
  | .loadGlyph dt p => Sys2Proof.Machine.execLoadGlyph dt p s
  | .setLine dt p => Sys2Proof.Machine.execSetLine dt p s
  | .setCarrier dt p => Sys2Proof.Machine.execSetCarrier dt p s
  | .connect dt p => Sys2Proof.Machine.execConnect dt p s
  | .disconnect dt p => Sys2Proof.Machine.execDisconnect dt p s
  | .sendBreak dt p => Sys2Proof.Machine.execSendBreak dt p s
  | .setLoop dt p => Sys2Proof.Machine.execSetLoop dt p s
  | .setKeys dt p => Sys2Proof.Machine.execSetKeys dt p s
  | .loadKeymap dt p => Sys2Proof.Machine.execLoadKeymap dt p s
  | .sendText dt p => Sys2Proof.Machine.execSendText dt p s
  | .setRoutes dt p => Sys2Proof.Machine.execSetRoutes dt p s
  | .setFlow dt p => Sys2Proof.Machine.execSetFlow dt p s
  | .clearQueue dt p => Sys2Proof.Machine.execClearQueue dt p s
  | .unknownKindFrame dt k p => Sys2Proof.Machine.execUnknownKindFrame dt k p s
  | .strayByte dt b => Sys2Proof.Machine.execStrayByte dt b s
  | .leadByte dt => Sys2Proof.Machine.execLeadByte dt s
  | .lengthByteAbove40 dt b => Sys2Proof.Machine.execLengthByteAbove40 dt b s
  | .unreadyFrame dt => Sys2Proof.Machine.execUnreadyFrame dt s
  | .gapTimerExpiry => Sys2Proof.Machine.execGapTimerExpiry s
  | .linkFrameEnd => Sys2Proof.Machine.execLinkFrameEnd s
  | .powerUpReset dt => Sys2Proof.Machine.execPowerUpReset dt s
  | .generalResetFromPin dt => Sys2Proof.Machine.execGeneralResetFromPin dt s
  | .resetEnd dt => Sys2Proof.Machine.execResetEnd dt s
  | .energizingTimerExpiry => Sys2Proof.Machine.execEnergizingTimerExpiry s
  | .holdTimerExpiry => Sys2Proof.Machine.execHoldTimerExpiry s
  | .loadingEnd => Sys2Proof.Machine.execLoadingEnd s
  | .pulseEnd => Sys2Proof.Machine.execPulseEnd s
  | .stepEnd => Sys2Proof.Machine.execStepEnd s
  | .settlePeriodEnd => Sys2Proof.Machine.execSettlePeriodEnd s
  | .paperSensorChange dt => Sys2Proof.Machine.execPaperSensorChange dt s
  | .paperPresentTimerExpiry => Sys2Proof.Machine.execPaperPresentTimerExpiry s
  | .converterReading code => Sys2Proof.Machine.execConverterReading code s
  | .formatterTakeItem => Sys2Proof.Machine.execFormatterTakeItem s
  | .lapseTimerExpiry => Sys2Proof.Machine.execLapseTimerExpiry s
  | .flushTimerExpiry => Sys2Proof.Machine.execFlushTimerExpiry s
  | .drainCommit => Sys2Proof.Machine.execDrainCommit s
  | .formFeedEntryAppend => Sys2Proof.Machine.execFormFeedEntryAppend s
  | .feedEntryAppend => Sys2Proof.Machine.execFeedEntryAppend s
  | .halfPeriodEnd dt => Sys2Proof.Machine.execHalfPeriodEnd dt s
  | .characterFinished => Sys2Proof.Machine.execCharacterFinished s
  | .breakWatchEnd => Sys2Proof.Machine.execBreakWatchEnd s
  | .framerTake => Sys2Proof.Machine.execFramerTake s
  | .framerCharacterEnd => Sys2Proof.Machine.execFramerCharacterEnd s
  | .breakTimerExpiry => Sys2Proof.Machine.execBreakTimerExpiry s
  | .breakMarkEnd => Sys2Proof.Machine.execBreakMarkEnd s
  | .carrierWindowEnd => Sys2Proof.Machine.execCarrierWindowEnd s
  | .connectTimerExpiry => Sys2Proof.Machine.execConnectTimerExpiry s
  | .settleTimerExpiry => Sys2Proof.Machine.execSettleTimerExpiry s
  | .dropoutTimerExpiry => Sys2Proof.Machine.execDropoutTimerExpiry s
  | .clearingTimerExpiry => Sys2Proof.Machine.execClearingTimerExpiry s
  | .remoteHoldTimerExpiry => Sys2Proof.Machine.execRemoteHoldTimerExpiry s
  | .routerTake src => Sys2Proof.Machine.execRouterTake src s
  | .scanReading cs => Sys2Proof.Machine.execScanReading cs s
  | .repeatTimerExpiry => Sys2Proof.Machine.execRepeatTimerExpiry s
  | .beeperEndTime => Sys2Proof.Machine.execBeeperEndTime s
  | .cellCentre => Sys2Proof.Machine.execCellCentre s
  | .cellBoundary => Sys2Proof.Machine.execCellBoundary s
  | .frameByteReceived dt b => Sys2Proof.Machine.execFrameByteReceived dt b s
  | .wrongCheckByte dt k p c => Sys2Proof.Machine.execWrongCheckByte dt k p c s

end Sys2Proof.Machine
end

