-- ==== Sys2Proof/Machine/Step.lean ====
section
/-!
DEFINITION. One step of the machine: the command or event at the front of the queue is taken.
-/

namespace Sys2Proof.Machine

/-- The oldest waiting command or event is taken and carried out with the rest of the queue behind it; with none waiting the
part idles (log 1). -/
def step (s : State) : Host.Outcome State Fault Refusal :=
  match s.pending with
  | [] => .next s
  | i :: rest => exec i { s with pending := rest }

/-- `s` with the command that the table's bits spell put at the front of its queue. The table gives no bits, so no word
spells one, and the state is left as it is (log 19). -/
def State.withFetchWord (s : State) (nbits w : Nat) : State :=
  match decodeTableWord nbits w with
  | some i => { s with pending := i :: s.pending }
  | none => s

end Sys2Proof.Machine
end

