-- ==== Sys2Proof/Machine/Pins.lean ====
section
/-!
DEFINITION. The outputs of the part, as functions of its state: SPK, BEEP, LTXD's frame and its bits, the strobe lines, the
head's dot data with its clock and its latch, and the motor phases (00_scope.md; R7, R12, R94, R151, R176).
-/

namespace Sys2Proof.Machine

/-- R7: the motor outputs MA, MB, MC, MD that are driven: the two of the position, or none while RELEASED. -/
def motorOutputs (s : State) : Bool × Bool × Bool × Bool :=
  if s.head.motor = .released then (false, false, false, false)
  else
    let p := s.head.position
    (decide (p = 0 ∨ p = 3), decide (p = 0 ∨ p = 1), decide (p = 1 ∨ p = 2), decide (p = 2 ∨ p = 3))

/-- R12: the bit shifted in for dot `d`: 1 for each dot of the phase. -/
def dotBit (p : Phase) (d : Nat) : Bool := p.dots.contains d

/-- R12: the 320 bits in the order they are shifted on HDAT, dot 319 first and dot 0 last. -/
def shiftedBits (p : Phase) : List Bool := (List.range 320).reverse.map (dotBit p)

/-- R12: one pulse of the load of a phase: of HCLK, which shifts the bit that HDAT carries then into the head's register, or of
HLAT, which latches that register. -/
inductive HeadPulse where
  | clock (data : Bool)
  | latch
  deriving DecidableEq, Repr

/-- R12: the pulses that load a phase, in their order: one of HCLK for each bit on HDAT, and then one of HLAT. -/
def loadPulses (p : Phase) : List HeadPulse := (shiftedBits p).map .clock ++ [.latch]

/-- R12: the pulses on HCLK and HLAT during the present 80 µs of LOADING, in their order (log 20); none at any other time, when
neither line turns. -/
def headPulses (s : State) : List HeadPulse :=
  match s.head.phase with
  | some p => if p.loading then loadPulses p else []
  | none => []

/-- R12: strobe line `n` is asserted during a pulse when its block of 40 dots holds a dot of the phase. -/
def strobe (s : State) (n : Nat) : Bool :=
  match s.head.phase with
  | some p => !p.loading && p.dots.any fun d => decide (d / 40 = n)
  | none => false

/-- R94, R132: the tone on SPK; in TEST with LOCAL TONE it rests, and the wave goes to the Discriminator inside the part. -/
def spk (s : State) : Tone := if inLocalTone s.conn then .silent else s.tone.output

/-- R136, R137: drive line `n` is pulled low while it is being read, which is the whole of its slot (log 20). -/
def driveLow (s : State) (n : Nat) : Bool := s.keys.slot.isSome && decide (s.keys.scanLine = n)

/-- R151: the beeper is sounding. -/
def beeping (s : State) : Bool := s.keys.beeper.isSome

/-- R151: BEEP is away from its steady level: while the beeper sounds it carries a 2 kHz square wave, whose first half-cycle of
250 µs begins when the beeper changed from silent to sounding (log 27). -/
def beepAway (s : State) : Bool :=
  match s.keys.beeper with
  | none => false
  | some b => decide ((s.now - b.since) / Config.beepHalf % 2 = 0)

/-- R183, R194: the bytes of the frame on LTXD; none while it rests high. -/
def ltxd (s : State) : List Byte :=
  match s.link.tx with
  | some frame => frame.bytes
  | none => []

/-! ### The bits of a byte on LRXD and LTXD (R176) -/

/-- R176: a byte on the wire, high as true: a start bit (low), eight data bits with the least significant first, no parity bit,
and one stop bit (high). -/
def wireBits (b : Byte) : List Bool := false :: (List.range 8).map b.getLsbD ++ [true]

/-- R176: the byte that ten bits on LRXD bring, received at the middle of the stop bit; none when the stop bit reads low, which
drops the byte and ends nothing, or when no start bit began it. -/
def byteOfWire (bits : List Bool) : Option Byte :=
  match bits with
  | [false, b0, b1, b2, b3, b4, b5, b6, b7, true] => some (codeOf [b0, b1, b2, b3, b4, b5, b6, b7])
  | _ => none

/-- R176: the bits of the frame on LTXD, its bytes with no gap between them; none while the line rests high. -/
def ltxdBits (s : State) : List Bool := (ltxd s).flatMap wireBits

/-- R176, R183: the bit on LTXD `e` µs into a byte, of ten at 19200 bit/s (log 7). -/
def bitAt (e : Micros) : Nat := min 9 (e * Config.linkBits / 1000000)

/-- R176, R183, R194: LTXD is high: at rest, as also from the end of a frame's last stop bit on, or at the frame's present
bit. -/
def ltxdHigh (s : State) : Bool :=
  match s.link.tx with
  | none => true
  | some frame =>
    let e := s.now + frame.bytes.length * Config.byteTime - frame.due
    decide (frame.due ≤ s.now) || (wireBits (frame.bytes.getD (e / Config.byteTime) 0xFF)).getD (bitAt (e % Config.byteTime)) true

end Sys2Proof.Machine
end

