-- ==== Sys2Proof/Safety.lean ====
section
/-!
DEFINITION. The terms claims are stated in: a safe step, a frame the receiver can take, what an answer leaves, and the
invariants of the state.
-/

namespace Sys2Proof.Safety

open Sys2Proof.Machine

/-! ### Steps -/

/-- A step that ends in a next state, neither a fault nor a refusal. -/
def GoesOn (s : State) : Prop := ∃ t, step s = .next t

/-- A state from which `n` steps can be made one after another. -/
def Safe : Nat → State → Prop
  | 0, _ => True
  | n + 1, s => ∃ t, step s = .next t ∧ Safe n t

/-- The state that `n` steps lead to, or none where a step does not go on. -/
def stepsTo : Nat → State → Option State
  | 0, s => some s
  | n + 1, s => match step s with
    | .next t => stepsTo n t
    | .fault _ | .refused _ => none

/-! ### Command frames -/

/-- The rows that are the completion of a command's frame: its time, its kind and its payload (R188). -/
def commandFrame : Instr → Option (Micros × Byte × List Byte)
  | .identify dt p => some (dt, 0x01, p)
  | .restart dt p => some (dt, 0x02, p)
  | .readConditions dt p => some (dt, 0x03, p)
  | .readStatus dt p => some (dt, 0x04, p)
  | .setReports dt p => some (dt, 0x05, p)
  | .setHead dt p => some (dt, 0x08, p)
  | .setDensity dt p => some (dt, 0x09, p)
  | .printText dt p => some (dt, 0x0B, p)
  | .setFormat dt p => some (dt, 0x0C, p)
  | .saveFormat dt p => some (dt, 0x0D, p)
  | .restoreFormat dt p => some (dt, 0x0E, p)
  | .feed dt p => some (dt, 0x0F, p)
  | .loadGlyph dt p => some (dt, 0x10, p)
  | .setLine dt p => some (dt, 0x11, p)
  | .setCarrier dt p => some (dt, 0x12, p)
  | .connect dt p => some (dt, 0x13, p)
  | .disconnect dt p => some (dt, 0x14, p)
  | .sendBreak dt p => some (dt, 0x15, p)
  | .setLoop dt p => some (dt, 0x16, p)
  | .setKeys dt p => some (dt, 0x18, p)
  | .loadKeymap dt p => some (dt, 0x19, p)
  | .sendText dt p => some (dt, 0x1A, p)
  | .setRoutes dt p => some (dt, 0x1B, p)
  | .setFlow dt p => some (dt, 0x1C, p)
  | .clearQueue dt p => some (dt, 0x1D, p)
  | .unknownKindFrame _ _ _ | .strayByte _ _ | .leadByte _ | .lengthByteAbove40 _ _ | .unreadyFrame _
  | .gapTimerExpiry | .linkFrameEnd | .powerUpReset _ | .generalResetFromPin _ | .resetEnd _
  | .energizingTimerExpiry | .holdTimerExpiry | .loadingEnd | .pulseEnd | .stepEnd | .settlePeriodEnd
  | .paperSensorChange _ | .paperPresentTimerExpiry | .converterReading _ | .formatterTakeItem
  | .lapseTimerExpiry | .flushTimerExpiry | .drainCommit | .formFeedEntryAppend | .feedEntryAppend
  | .halfPeriodEnd _ | .characterFinished | .breakWatchEnd | .framerTake | .framerCharacterEnd
  | .breakTimerExpiry | .breakMarkEnd | .carrierWindowEnd | .connectTimerExpiry | .settleTimerExpiry
  | .dropoutTimerExpiry | .clearingTimerExpiry | .remoteHoldTimerExpiry | .routerTake _ | .scanReading _
  | .repeatTimerExpiry | .beeperEndTime | .cellCentre | .cellBoundary | .frameByteReceived _ _
  | .wrongCheckByte _ _ _ _ => none

/-- R188: the length of a SET FORMAT payload is exactly that of the fields its presence byte names. -/
def formatLengthFits (p : List Byte) : Bool :=
  match p with
  | [] => false
  | bits :: rest =>
    let before := ((List.range 5).filter fun i => bits.getLsbD i).length
    let after := (if bits.getLsbD 6 then 1 else 0) + (if bits.getLsbD 7 then 2 else 0)
    if bits.getLsbD 5 then
      match rest[before]? with
      | some stops => decide (rest.length = before + 1 + stops.toNat + after)
      | none => false
    else decide (rest.length = before + after)

/-- R188: the payload lengths of the command kinds. -/
def lengthFits (kind : Byte) (p : List Byte) : Bool :=
  if [0x01, 0x02, 0x03, 0x0D, 0x0E, 0x14, 0x15].contains kind then decide (p.length = 0)
  else if [0x04, 0x05, 0x0F, 0x13, 0x16, 0x1D].contains kind then decide (p.length = 1)
  else if kind = 0x08 ∨ kind = 0x1C then decide (p.length = 4)
  else if kind = 0x09 ∨ kind = 0x1B then decide (p.length = 3)
  else if kind = 0x12 ∨ kind = 0x18 then decide (p.length = 5)
  else if kind = 0x0B ∨ kind = 0x1A then decide (1 ≤ p.length ∧ p.length ≤ 38)
  else if kind = 0x0C then formatLengthFits p
  else if kind = 0x10 then decide (p.length = 11)
  else if kind = 0x11 then decide (p.length = 7)
  else if kind = 0x19 then decide (5 ≤ p.length ∧ p.length ≤ 38 ∧ p.length % 3 = 2)
  else false

/-- R177, R182: no reset is in progress and a frame of this kind and payload can complete now, ready: the receiver is outside
with LRDY high (log 4), or inside a ready frame with these bytes collected. -/
abbrev CanTake (kind : Byte) (payload : List Byte) (s : State) : Prop :=
  s.resetting = none ∧
    ((s.link.receiver = .outside ∧ lrdy s = true)
      ∨ s.link.receiver = .inside true (kind :: BitVec.ofNat 8 payload.length :: payload))

/-- R177, R182: the same frame, unready: the receiver is outside with LRDY low, or inside an unready frame with these bytes
collected. -/
abbrev CanDiscard (kind : Byte) (payload : List Byte) (s : State) : Prop :=
  s.resetting = none ∧
    ((s.link.receiver = .outside ∧ lrdy s = false)
      ∨ s.link.receiver = .inside false (kind :: BitVec.ofNat 8 payload.length :: payload))

/-- R177, R181: what a frame that is answered leaves when its command changes nothing else: `dt` has passed, the receiver is
outside with its gap timer stopped, and the reply has joined the queue. -/
def answered (dt : Micros) (r : Reply) (s : State) : State :=
  { s with
    now := s.now + dt
    link := { s.link with receiver := .outside, gap := none, replies := s.link.replies ++ [r] } }

/-- R182: what an unready frame leaves when it ends: `dt` has passed, the receiver is outside with its gap timer stopped, and
the frame is counted. -/
def discarded (dt : Micros) (s : State) : State :=
  { s with
    now := s.now + dt
    link := { s.link with
      receiver := .outside, gap := none, unreadyFrames := min (s.link.unreadyFrames + 1) 65535 } }

/-- The reply DONE, or CLAMPED when a number was clamped (R180). -/
def doneReply (kind : Byte) (clamped : Prop) [Decidable clamped] : Reply :=
  if clamped then .clamped kind else .done kind

/-- R82, steps 3 and 4: what a directive command leaves: its record at the newest end of the print text queue, or, with no
free place, PARTIAL with the count 0 and the wanted flag. -/
def placed (dt : Micros) (kind : Byte) (clamped : Prop) [Decidable clamped] (d : Directive) (s : State) : State :=
  if 64 ≤ s.fmt.ptq.length then
    { answered dt (.partly kind 0) s with fmt := { s.fmt with ptqWanted := true } }
  else
    { answered dt (doneReply kind clamped) s with fmt := { s.fmt with ptq := s.fmt.ptq ++ [.directive d] } }

/-- R188: the payload of a SET FORMAT that gives these fields: the presence byte, then each field present in the order of its
bit. -/
def formatPayload (r : RawFormat) : List Byte :=
  let bit (b : Bool) (n : Nat) : Nat := if b then 2 ^ n else 0
  BitVec.ofNat 8 (bit r.left.isSome 0 + bit r.right.isSome 1 + bit r.wrap.isSome 2 + bit r.double.isSome 3
      + bit r.mark.isSome 4 + bit r.tabs.isSome 5 + bit r.formLength.isSome 6 + bit r.flushDelay.isSome 7)
    :: (r.left.toList ++ r.right.toList ++ r.wrap.toList ++ r.double.toList ++ r.mark.toList
      ++ (match r.tabs with
          | none => []
          | some ts => BitVec.ofNat 8 ts.length :: ts)
      ++ r.formLength.toList
      ++ (match r.flushDelay with
          | none => []
          | some d => [BitVec.ofNat 8 d, BitVec.ofNat 8 (d / 256)]))

/-- R85: the fields of a SET FORMAT make a structure. -/
abbrev FormatGood (r : RawFormat) : Prop :=
  (∀ b ∈ r.wrap, b.toNat ≤ 1) ∧ (∀ b ∈ r.double, b.toNat ≤ 1)
  ∧ (∀ a ∈ r.left, ∀ b ∈ r.right, a.toNat < b.toNat)
  ∧ ∀ ts ∈ r.tabs, ts.length ≤ 16 ∧ ts.Pairwise fun a b => a.toNat < b.toNat

/-- R85: a numeric field of a SET FORMAT is moved by its clamp. -/
abbrev FormatMoved (r : RawFormat) : Prop :=
  (∃ b ∈ r.left, 38 < b.toNat) ∨ (∃ b ∈ r.right, 39 < b.toNat) ∨ (∃ b ∈ r.mark, 39 < b.toNat)
  ∨ (∃ ts ∈ r.tabs, ∃ b ∈ ts, 39 < b.toNat)
  ∨ ∃ d ∈ r.flushDelay, d ≠ 0 ∧ (d < 100 ∨ 5000 < d)

/-- R85: the fields of a SET FORMAT as clamped; stops made alike by the clamp are kept once. -/
def clampedFields (r : RawFormat) : FormatFields where
  left := r.left.map fun b => min 38 b.toNat
  right := r.right.map fun b => min 39 b.toNat
  wrap := r.wrap.map fun b => decide (b = 1)
  double := r.double.map fun b => decide (b = 1)
  mark := r.mark.map fun b => min 39 b.toNat
  tabs := r.tabs.map fun ts => (ts.map fun b => min 39 b.toNat).dedup
  formLength := r.formLength.map BitVec.toNat
  flushDelay := r.flushDelay.map fun d => if d = 0 then 0 else max 100 (min 5000 d)

/-! ### Entries of the row queue -/

/-- R3, R79: the dot rows an entry covers. -/
def rowsIn : RowEntry → Nat
  | .burn _ => 1
  | .feed n => n

/-- R3: the entry is a FEED. -/
def isFeed : RowEntry → Bool
  | .feed _ => true
  | .burn _ => false

/-! ### Frames sent and resets -/

/-- R180, R189: the kind of the frame that carries a reply. -/
def replyKindOf : Reply → Byte
  | .done k | .clamped k | .partly k _ => k + 0x80
  | .reject _ _ => 0x7F
  | .identify => 0x81
  | .restart => 0x82
  | .conditions => 0x83
  | .status _ => 0x84

/-- R183 to R185, R189: the kind of the pending report that is highest in the order, or none. -/
def firstReport (s : State) : Option Byte :=
  if s.link.pendCondition then some 0x61
  else if s.link.pendLineState then some 0x62
  else if s.link.mask.rxData ∧ s.router.rxData ≠ [] then some 0x63
  else if s.link.mask.keyData ∧ s.router.keyData ≠ [] then some 0x64
  else if s.link.pendSpace then some 0x65
  else none

/-- The layout of every frame: the lead byte, the kind, the length, the payload, and the check byte that makes all after the
lead sum to 0 modulo 256. -/
def framed (kind : Byte) (payload : List Byte) : List Byte :=
  0xC3 :: kind :: BitVec.ofNat 8 payload.length
    :: payload ++ [-(kind + BitVec.ofNat 8 payload.length + payload.foldr (· + ·) 0)]

/-- R183: the part when a frame has just begun to be sent, k bytes for k times 521 µs (log 7). -/
def sending (kind : Byte) (payload : List Byte) (restart : Bool) (s : State) : State :=
  { s with link := { s.link with
      tx := some { bytes := framed kind payload, due := s.now + 521 * (payload.length + 4), restart := restart } } }

/-- A count in one byte. -/
def oneByte (n : Nat) : Byte := BitVec.ofNat 8 n

/-- R188: a quantity in two bytes, the low byte first. -/
def twoBytes (n : Nat) : List Byte := [BitVec.ofNat 8 n, BitVec.ofNat 8 (n / 256)]

/-- R189, R190: flags in a byte, from bit 0 on. -/
def flagsOf (bits : List Bool) : Byte := BitVec.ofNat 8 (bits.foldr (fun b n => 2 * n + b.toNat) 0)

/-- R189, R190: the code of a name is its place in the list the rule gives. -/
def codeIn {α : Type} [BEq α] (names : List α) (x : α) : Byte := BitVec.ofNat 8 (names.idxOf x)

/-- R189: the connect state, the line flags and the loop mode. -/
def lineStateBytes (s : State) : List Byte :=
  [codeIn [.idle, .waitAnswer, .answering, .settle, .online, .fade, .clearing, .test] s.conn.state,
    flagsOf [s.monitor.present, s.router.remoteHeld, s.router.holdSent, s.router.pause],
    codeIn [.normal, .localTone, .localChar, .remoteEcho] s.conn.loop]

/-- R23, R45, R52, R112, R135, R154, R175, R187, R194: `t` is the part while a reset holds it that took effect on `s` at the
moment `at0` and will keep `cause`: every block is at its reset values, the head configuration is `cfg`, and the latches and
causes stand. -/
structure HeldSince (s : State) (at0 : Micros) (cause : Cause) (cfg : Option HeadConfig) (ends : Timer) (t : State) :
    Prop where
  now : t.now = at0
  pending : t.pending = s.pending
  resetting : t.resetting = some cause
  resetEnd : t.resetEnd = ends
  link : t.link = { LinkPort.reset with
    latches := s.link.latches, keptCause := s.link.keptCause, lastCause := s.link.lastCause }
  supply : t.supply = .reset
  head : t.head = .reset cfg s.head.paper
  fmt : t.fmt = .reset
  format : t.format = .reset
  tone : t.tone = .reset
  signal : t.signal = .reset
  monitor : t.monitor = .reset
  conn : t.conn = .reset
  router : t.router = .reset
  keys : t.keys = .reset

/-! ### Readings and resumption -/

/-- R24, R26, R28, R29: what a reading with the code `c` leaves, the driver apart: the code becomes the latest reading of its
channel, the next conversion, of the next channel, ends 1 ms later, and HOT or BATTERY LOW is judged. -/
def readingTaken (due : Micros) (c : Byte) (s : State) : State :=
  let t : State := { s with
    now := max s.now due, supply := { s.supply with conversion := some (max s.now due + 1000) } }
  let degrees : Int := 90 - (c.toNat * 100 / 255 : Nat)
  let counts := if s.supply.batteryLow then decide (5800 ≤ 40 * c.toNat) else decide (40 * c.toNat < 5400)
  let turns := counts && decide (1 ≤ s.supply.lowCount)
  match s.supply.channel with
  | .level => { t with supply := { t.supply with channel := .battery, level := { code := c, valid := true } } }
  | .temp => { t with
      supply := { t.supply with
        channel := .level, temp := { code := c, valid := true }
        hot := decide (65 ≤ degrees) || (s.supply.hot && decide (55 < degrees)) }
      link := if 65 ≤ degrees ∧ s.supply.hot = false then s.link.setLatch .headHot else s.link }
  | .battery => { t with
      supply := { t.supply with
        channel := .temp, battery := { code := c, valid := true }
        batteryLow := s.supply.batteryLow != turns
        lowCount := if counts && !turns then 1 else 0 }
      link := if turns ∧ s.supply.batteryLow = false then s.link.setLatch .batteryLow else s.link }

/-- R6, R21: the driver, with the motor HELD, makes the start of the row in hand: a step start, a first phase start that the
settle period delays, or a phase start. -/
def startedAgain (s : State) : Option State :=
  match s.head.row with
  | none => none
  | some (.feed _ _) => some (stepStart true { s with head := { s.head with hold := none } })
  | some (.burn r) =>
    match r.next with
    | .step => some (stepStart false { s with head := { s.head with hold := none } })
    | .phase =>
      if r.hot = none ∧ s.head.settle ≠ none then
        some { s with head := { s.head with state := .settling, reasons := .none, waiting := false, hold := none } }
      else s.head.config.map fun cfg =>
        phaseStart cfg r { s with head := { s.head with state := .burning, reasons := .none, hold := none } }

/-- R21: `t` is the part when the driver of `s` has resumed: with the motor RELEASED it has entered ENERGIZING, and with the motor
HELD it has made its start again, its reasons gone. -/
def Resumed (s t : State) : Prop :=
  (s.head.motor = .released ∧ t = { s with head := { s.head with
      reasons := .none, state := .energizing, waiting := false, hold := none
      motor := .energizing, energize := some (s.now + 20000) } })
    ∨ (s.head.motor = .held ∧ startedAgain { s with head := { s.head with reasons := .none } } = some t)

/-- R31: the refused start is a step start. -/
def stepRefused (s : State) : Prop :=
  (∃ n left, s.head.row = some (.feed n left)) ∨ ∃ r, s.head.row = some (.burn r) ∧ r.next = .step

/-- R31, R35, R37: the refused start of `u`, a phase start or a step start, is judged afresh by the readings of `u`: `starved` is
the outcome, and `v` what the judgement leaves: STARVED, and for a phase start the last N. -/
def JudgedAfresh (u : State) (starved : Bool) (v : State) : Prop :=
  (stepRefused u ∧ starved = decide (iMax u < if carrierOn u.conn then 410 else 350)
    ∧ v = { u with supply := { u.supply with starved := starved } })
  ∨ ∃ r cfg, u.head.row = some (.burn r) ∧ r.next = .phase ∧ u.head.config = some cfg
    ∧ starved = decide ((figures cfg 0 u).limit < 4)
    ∧ v = { u with supply := { u.supply with starved := starved, lastLimit := (figures cfg 0 u).limit } }

/-- R19: the reasons of a pause that are left after a battery reading: STARVED as the judgement found it, and BATTERY LOW unless
the reading was the second in a row of 5800 mV or more. -/
def reasonsAfterBattery (s : State) (c : Byte) (starved : Bool) : Reasons :=
  { s.head.reasons with
    starved := starved
    batteryLow := s.head.reasons.batteryLow
      && !(s.supply.batteryLow && decide (1 ≤ s.supply.lowCount) && decide (145 ≤ c.toNat)) }

/-- R18: a pause for one reason alone. -/
def onlyHot : Reasons := { hot := true, starved := false, batteryLow := false, noPaper := false }
def onlyStarved : Reasons := { hot := false, starved := true, batteryLow := false, noPaper := false }
def onlyBatteryLow : Reasons := { hot := false, starved := false, batteryLow := true, noPaper := false }
def onlyNoPaper : Reasons := { hot := false, starved := false, batteryLow := false, noPaper := true }

/-! ### The load of a phase -/

/-- R12, 00_scope.md: the head's 320-bit register, place 0 first, and what it has latched, after a pulse: HCLK shifts the bit on
HDAT in at place 0 and moves each bit up by one place (log 20), and HLAT latches the register as it stands. -/
def headAfter (h : List Bool × List Bool) : HeadPulse → List Bool × List Bool
  | .clock data => (data :: h.1.take 319, h.2)
  | .latch => (h.1, h.1)

/-! ### The phases of a row -/

/-- R12, R38: the phases that a row's unburned dots take under an unchanging N, at most `fuel` of them. -/
def phasesOf (n : Nat) : (fuel : Nat) → BurnRow → (hot : List Nat) → List (List Nat)
  | 0, _, _ => []
  | fuel + 1, r, hot =>
    if r.unburned = [] then []
    else r.pack hot n :: phasesOf n fuel (r.burnedBy (r.pack hot n)) hot

/-! ### The line and the call -/

/-- R97: the bit time and the half bit time of a speed. -/
def cellTimes : Speed → Micros × Micros
  | .b110 => (9091, 4545)
  | .b150 => (6667, 3333)
  | .b300 => (3333, 1666)

/-- R96, R97: the data cells, the parity cells and the stop cells of a format. -/
def cellCounts (f : LineFormat) : Nat × Nat × Nat :=
  (if f.eightBits then 8 else 7, if f.parity = .none then 0 else 1, if f.twoStops then 2 else 1)

/-- R97: the frame time in cells. -/
def cellTotal (f : LineFormat) : Nat := 1 + (cellCounts f).1 + (cellCounts f).2.1 + (cellCounts f).2.2

/-- R93: the listen channel is the low channel. -/
def listensLow (s : State) : Bool :=
  decide (s.conn.role = .answer ∨ (s.conn.state = .test ∧ s.conn.loop = .localTone))

/-- R94: the wave crosses zero at the moment `t`, in parts of a µs of which there are 15739360: since the last change of output
it has turned to a whole number of half cycles, counted from phase 0. -/
def WaveCrosses (g : ToneGen) (t : Nat) : Prop :=
  g.since * 15739360 ≤ t
    ∧ ∃ n, g.phase ≤ 500000 * n
      ∧ (t - g.since * 15739360) * toneHertz g.channel g.output = (500000 * n - g.phase) * 15739360

/-- R94, R99: `next` is the wave's first zero crossing after `last`; the beginning of a wave from SILENT is none (log 17). -/
def FirstCrossing (g : ToneGen) (last : Option Nat) (next : Nat) : Prop :=
  let from0 := last.getD (g.since * 15739360)
  WaveCrosses g next ∧ from0 < next ∧ ∀ u, WaveCrosses g u → from0 < u → next ≤ u

/-- R104: a character that is not spoiled is received now, and not muted. -/
def unmuted (s : State) : Bool :=
  decide (s.conn.state = .online ∨ (s.conn.state = .test ∧ s.conn.loop = .localTone))

/-- R184: the Link Port told of a change that a LINE STATE report covers. -/
def told (k : LinkPort) : LinkPort := { k with pendLineState := k.pendLineState || k.mask.lineState }

/-- R129, R174: what an entry to IDLE leaves. -/
def idled (s : State) : State :=
  let test := decide (s.conn.state = .test)
  let tone := decide (s.conn.state = .test ∧ s.conn.loop = .localTone)
  let call := decide (s.conn.state = .settle ∨ s.conn.state = .online ∨ s.conn.state = .fade ∨ s.conn.state = .clearing)
  let lost := (if s.signal.framer.isSome then 1 else 0) + if call then s.router.txQueue.length else 0
  { s with
    conn := { state := .idle, loop := .normal, role := s.conn.role, connectTimer := none, settleTimer := none
              dropoutTimer := none, clearingTimer := none }
    link := told s.link
    monitor := if test then
        { s.monitor with total := 0, inBand := 0, window := some (s.now + 10000), present := false
                         qualifying := 0, badRun := 0, lowRun := 0 }
      else s.monitor
    signal := { s.signal with
      framer := none, breakTimer := none
      crossing := if tone then none else s.signal.crossing
      deframer := if decide (s.conn.state = .online) || tone then s.signal.deframer.spoil else s.signal.deframer }
    router := { s.router with
      slot := none, holdSent := false, remoteHeld := false, remoteTimer := none
      txQueue := if call then [] else s.router.txQueue
      discards := if s.signal.framer.isSome || call then min (s.router.discards + lost) 65535 else s.router.discards } }

/-- R158, R161, R163, R165, R166: what the take of a source leaves: its oldest character leaves it and is delivered to every sink
of its set at once and to no other. A received character goes as its own code, or as the substitute code when it carries a flag
and substitution is on, and its leaving judges local hold; the send text queue's wanted flag clears at 32 free places. -/
def sourceTaken (src : Source) (s : State) : State :=
  let x := sinksOf src s
  let printed (c : Byte) (t : State) : State := if x.print then takeItem (ownerOf src) (.char c) t else t
  let lined (c : Byte) : List Byte := if x.line then s.router.txQueue ++ [c] else s.router.txQueue
  match src with
  | .rx =>
    match s.router.store with
    | [] => s
    | c :: rest =>
      let code := if (c.parityBad || c.framingBad) && s.format.substitution then s.format.substitute else c.code
      printed code (judgeHold { s with router := { s.router with
        store := rest
        txQueue := lined code
        rxData := if x.link then s.router.rxData ++ [code] else s.router.rxData } })
  | .key =>
    match s.keys.queue with
    | [] => s
    | c :: rest => printed c.code { s with
        keys := { s.keys with queue := rest }
        router := { s.router with
          txQueue := lined c.code
          keyData := if x.link then s.router.keyData ++ [c] else s.router.keyData } }
  | .stq =>
    match s.router.stq with
    | [] => s
    | c :: rest =>
      let clears := s.router.stqWanted && decide (rest.length ≤ 32)
      printed c { s with
        router := { s.router with
          stq := rest, txQueue := lined c, stqWanted := s.router.stqWanted && !clears }
        link := { s.link with pendSpace := s.link.pendSpace || (clears && s.link.mask.space) } }

/-- R104, R105: what a character that the Deframer has finished leaves. -/
def finished (c : RxChar) (spoiled : Bool) (s : State) : State :=
  if !spoiled && unmuted s then
    arrive c { s with signal := { s.signal with received := min (s.signal.received + 1) 65535 } }
  else { s with signal := { s.signal with muted := min (s.signal.muted + 1) 65535 } }

/-- R100 to R103: the Deframer at the centres of successive cells, the line state at each being the cell's: the last is the
end of the character. -/
def heard : List Bool → State → State
  | [], s => s
  | [b], s => characterFinished { s with signal := { s.signal with lineMark := b } }
  | b :: rest, s => heard rest (centreReached { s with signal := { s.signal with lineMark := b } })

/-! ### The keyboard -/

/-- R151: the beeper made to sound until `due` by a request at the moment `t`: a wave that sounds goes on, and a silent beeper
begins one at `t`. -/
def beepFrom (b : Option Beep) (t due : Micros) : Option Beep :=
  match b with
  | none => some { since := t, due := due }
  | some b => some { since := b.since, due := due }

/-- R136: a chain of closed keys joins a sense line to drive line `d`. -/
inductive Chain (closed : List Nat) (d : Nat) : Nat → Prop
  | direct (c : Nat) (h : d * 9 + c ∈ closed) (hc : c < 9) : Chain closed d c
  | through (c c' d' : Nat) (h : Chain closed d c') (hd : d' < 8) (h1 : d' * 9 + c' ∈ closed)
      (h2 : d' * 9 + c ∈ closed) (hc : c < 9) : Chain closed d c

/-! ### Invariants -/

/-- R177: a ready frame is being received. -/
def receiving : Receiver → Bool
  | .inside true _ => true
  | .inside false _ | .outside => false

/-- R3, R53, R80, R88, R150, R159, R162, R164, R166, R181: no queue holds more than its capacity, and a ready frame being
received will find room for its reply. -/
abbrev QueuesFit (s : State) : Prop :=
  s.head.queue.length ≤ 32
  ∧ (1 ≤ s.fmt.window.length ∧ s.fmt.window.length ≤ 4 ∧ s.fmt.cursorLine < s.fmt.window.length)
  ∧ s.fmt.ptq.length ≤ 64 ∧ s.fmt.stack.length ≤ 4
  ∧ s.router.stq.length ≤ 64 ∧ s.router.txQueue.length ≤ 8
  ∧ s.router.store.length ≤ (if s.format.deep then 32 else 16)
  ∧ s.router.rxData.length ≤ 32 ∧ s.router.keyData.length ≤ 16
  ∧ s.keys.queue.length ≤ 16
  ∧ s.link.replies.length ≤ 4
  ∧ (receiving s.link.receiver = true → s.link.replies.length ≤ 3)

/-- R193: every counter stands at 65535 or below. -/
abbrev CountersFit (s : State) : Prop :=
  s.head.rowsBurned ≤ 65535 ∧ s.head.phasesBurned ≤ 65535
  ∧ s.signal.received ≤ 65535 ∧ s.signal.muted ≤ 65535
  ∧ s.router.parityErrors ≤ 65535 ∧ s.router.framingErrors ≤ 65535 ∧ s.router.overruns ≤ 65535
  ∧ s.router.discards ≤ 65535 ∧ s.router.echoDrops ≤ 65535
  ∧ s.keys.keysLost ≤ 65535 ∧ s.keys.ghosts ≤ 65535
  ∧ s.link.strayBytes ≤ 65535 ∧ s.link.unreadyFrames ≤ 65535 ∧ s.link.tornFrames ≤ 65535

/-- R171: in HOLD SENT the flow slot holds an unsent HOLD or nothing, and in CLEAR an unsent RESUME or nothing. -/
abbrev SlotAgrees (s : State) : Prop :=
  ∀ f ∈ s.router.slot, (f.kind = .hold ↔ s.router.holdSent = true)

/-- R171: the kind of the flow code that is to be sent next: an unsent one, or else the one that the next change of the local
hold state places. -/
def nextFlow (s : State) : FlowKind :=
  match s.router.slot with
  | some f => f.kind
  | none => if s.router.holdSent then .resume else .hold

/-- R107, R171: the kind of the flow code that a row sends from the flow slot, if it sends one. -/
def flowSent (i : Instr) (s : State) : Option FlowKind :=
  if i = .framerTake ∧ s.resetting = none ∧ s.signal.framer = none
      ∧ (s.conn.state = .online ∨ s.conn.state = .fade ∨ s.conn.state = .test)
      ∧ s.signal.breakTimer = none ∧ s.signal.markTimer = none then s.router.slot.map FlowCode.kind
  else none

/-- R171, R174, R194: from `s` to `t` the row `i` lets a reset take effect or returns the connection to IDLE. -/
def beginsAnew (i : Instr) (s t : State) : Prop :=
  (∃ dt, i = .powerUpReset dt ∨ i = .generalResetFromPin dt) ∨ (s.resetting = none ∧ t.resetting ≠ none)
    ∨ (s.conn.state ≠ .idle ∧ t.conn.state = .idle)

/-- R52, R88: margins that do not cross, a mark within the line, and stops that name columns in ascending order. -/
abbrev LayoutOk (l : Layout) : Prop :=
  l.left < l.right ∧ l.right ≤ 39 ∧ l.mark ≤ 39
  ∧ l.tabs.length ≤ 16 ∧ l.tabs.Pairwise (· < ·) ∧ ∀ t ∈ l.tabs, t ≤ 39

/-- R53, R57: a line has forty cells, and a cell at most three codes, none twice. -/
abbrev LineOk (l : Line) : Prop :=
  l.cells.length = 40 ∧ ∀ c ∈ l.cells, c.codes.length ≤ 3 ∧ c.codes.Nodup

/-- R85: the fields of a SET FORMAT record are within their ranges, and its margins do not cross. -/
abbrev FieldsOk (f : FormatFields) : Prop :=
  (∀ l ∈ f.left, l ≤ 38) ∧ (∀ r ∈ f.right, r ≤ 39) ∧ (∀ m ∈ f.mark, m ≤ 39)
  ∧ (∀ l ∈ f.left, ∀ r ∈ f.right, l < r)
  ∧ (∀ ts ∈ f.tabs, ts.length ≤ 16 ∧ ts.Pairwise (· < ·) ∧ ∀ t ∈ ts, t ≤ 39)
  ∧ (∀ n ∈ f.formLength, n ≤ 255) ∧ (∀ d ∈ f.flushDelay, d = 0 ∨ (100 ≤ d ∧ d ≤ 5000))

/-- R80: the fields of a SET FORMAT record. -/
def fieldsOf : Item → Option FormatFields
  | .directive (.setFormat f) => some f
  | .directive (.feed _) | .directive .saveFormat | .directive .restoreFormat | .char _ => none

/-- R80: the row count of a FEED record. -/
def rowsOf : Item → Option Nat
  | .directive (.feed n) => some n
  | .directive (.setFormat _) | .directive .saveFormat | .directive .restoreFormat | .char _ => none

/-- R80, R85: a record of the print text queue holds fields that are within their ranges, or a row count of 1 to 255. -/
abbrev ItemOk (it : Item) : Prop := (∀ f ∈ fieldsOf it, FieldsOk f) ∧ ∀ n ∈ rowsOf it, 1 ≤ n ∧ n ≤ 255

/-- R54, R72: a column between the left margin and the right margin + 1. -/
abbrev ColumnOk (l : Layout) (c : Nat) : Prop := l.left ≤ c ∧ c ≤ l.right + 1

/-- R72: the column a flush has noted. -/
def notedColumn : Activity → Option Nat
  | .draining (.flush c) => some c
  | .draining (.formFeed _) | .draining (.feed _ _) | .ready | .stalled => none

/-- R52 to R58, R85, R88: the formatter's context, cursor, lines and records are within their ranges. -/
abbrev FormatterOk (s : State) : Prop :=
  LayoutOk s.fmt.layout ∧ ColumnOk s.fmt.layout s.fmt.column
  ∧ (∀ l ∈ s.fmt.stack, LayoutOk l) ∧ (∀ l ∈ s.fmt.window, LineOk l) ∧ (∀ it ∈ s.fmt.ptq, ItemOk it)
  ∧ s.fmt.formLength ≤ 255 ∧ s.fmt.formCounter ≤ 255
  ∧ (0 < s.fmt.formLength → s.fmt.formCounter < s.fmt.formLength)
  ∧ (s.fmt.flushDelay = 0 ∨ (100 ≤ s.fmt.flushDelay ∧ s.fmt.flushDelay ≤ 5000))
  ∧ ∀ c ∈ notedColumn s.fmt.activity, ColumnOk s.fmt.layout c

/-- R3, R12: a set of dots: ascending positions below 320, at least one. -/
abbrev DotsOk (dots : List Nat) : Prop := dots ≠ [] ∧ dots.Pairwise (· < ·) ∧ ∀ d ∈ dots, d < 320

/-- R3: the dots of a BURN entry. -/
def dotsOf : RowEntry → Option (List Nat)
  | .burn dots => some dots
  | .feed _ => none

/-- R3: the count of a FEED entry. -/
def countOf : RowEntry → Option Nat
  | .feed n => some n
  | .burn _ => none

/-- R3: a BURN entry holds a set of dots, and a FEED entry a count of 1 to 255. -/
abbrev EntryOk (e : RowEntry) : Prop := (∀ d ∈ dotsOf e, DotsOk d) ∧ ∀ n ∈ countOf e, 1 ≤ n ∧ n ≤ 255

/-- R4: the BURN row in hand. -/
def burnInHand : Option CurrentRow → Option BurnRow
  | some (.burn r) => some r
  | some (.feed _ _) | none => none

/-- R4: the count of the FEED in hand and the steps still to be made. -/
def feedInHand : Option CurrentRow → Option (Nat × Nat)
  | some (.feed count left) => some (count, left)
  | some (.burn _) | none => none

/-- R64, R90: the counts of the FEED entries that a drain has still to append. -/
def owedFeeds : Activity → List Nat
  | .draining (.formFeed (some counts)) => counts
  | .draining (.feed n _) => [n]
  | .draining (.formFeed none) | .draining (.flush _) | .ready | .stalled => []

/-- R4, R12, R13: a BURN row in hand: a set of marked dots; the burned dots are marked ones, none twice; a phase is still to be
made exactly while a marked dot is left. -/
abbrev BurnRowOk (r : BurnRow) : Prop :=
  DotsOk r.marked ∧ r.burned.Nodup ∧ (∀ d ∈ r.burned, d ∈ r.marked)
  ∧ (r.next = .phase ↔ ∃ d ∈ r.marked, d ∉ r.burned)

/-- R12, R37, R38, R40: a phase of the row `r` under the configuration `c`: at least one dot and at most the maximum dots per
phase, each marked and not yet burned, none twice, and a width from 100 µs to the maximum pulse width. -/
abbrev PhaseOk (c : HeadConfig) (r : BurnRow) (p : Phase) : Prop :=
  p.dots ≠ [] ∧ p.dots.length ≤ c.maxDots ∧ p.dots.Nodup ∧ (∀ d ∈ p.dots, d ∈ r.marked ∧ d ∉ r.burned)
  ∧ 100 ≤ p.width ∧ p.width ≤ c.maxWidth

/-- R3, R4, R12, R38, R64, R90: the entries of the row queue, those a drain still owes, the row in hand and the phase in progress
are sound. -/
abbrev RowsOk (s : State) : Prop :=
  (∀ e ∈ s.head.queue, EntryOk e)
  ∧ (∀ n ∈ owedFeeds s.fmt.activity, 1 ≤ n ∧ n ≤ 255)
  ∧ (∀ r ∈ burnInHand s.head.row, BurnRowOk r)
  ∧ (∀ f ∈ feedInHand s.head.row, 1 ≤ f.2 ∧ f.2 ≤ f.1 ∧ f.1 ≤ 255)
  ∧ ∀ p ∈ s.head.phase, ∃ c ∈ s.head.config, ∃ r ∈ burnInHand s.head.row, PhaseOk c r p

/-- R5 to R9, R15, R17, R18: the driver's state, the motor and the driver's timers agree. -/
abbrev DriverOk (s : State) : Prop :=
  (s.head.config = none ↔ s.head.state = .unconfigured)
  ∧ (s.head.state = .unconfigured → s.head.motor = .released ∧ s.head.row = none ∧ s.head.waiting = false)
  ∧ (s.head.phase.isSome → s.head.state = .burning ∧ s.head.waiting = false)
  ∧ (s.head.step.isSome ↔ s.head.motor = .stepping)
  ∧ (s.head.step.isSome → s.head.state = .stepping ∧ s.head.waiting = false)
  ∧ (s.head.energize.isSome ↔ s.head.motor = .energizing)
  ∧ (s.head.energize.isSome → s.head.state = .energizing ∧ s.head.waiting = false)
  ∧ (s.head.hold.isSome →
      s.head.motor = .held ∧ (s.head.state = .idle ∨ s.head.state = .paused) ∧ s.head.waiting = false)
  ∧ (s.head.state = .burning ∨ s.head.state = .settling ∨ s.head.waiting = true → s.head.motor = .held)
  ∧ (s.head.reasons.any = true → s.head.state = .paused)
  ∧ s.head.position < 4 ∧ s.head.boostRows ≤ 2

/-- The connect states in which a break is allowed (R128). -/
abbrev OpenCall (s : State) : Prop := s.conn.state = .online ∨ s.conn.state = .fade

/-- R110, R118, R121 to R127, R131: each timer of the connection runs in its own states and in no other, the loop mode suits
the state, and the Carrier Monitor is idle in TEST with LOCAL CHAR alone. -/
abbrev ConnectionOk (s : State) : Prop :=
  (s.conn.connectTimer.isSome ↔ s.conn.state = .waitAnswer ∨ s.conn.state = .answering)
  ∧ (s.conn.settleTimer.isSome ↔ s.conn.state = .settle)
  ∧ (s.conn.dropoutTimer.isSome ↔ s.conn.state = .fade)
  ∧ (s.conn.clearingTimer.isSome ↔ s.conn.state = .clearing)
  ∧ (s.conn.loop = .localTone ∨ s.conn.loop = .localChar ↔ s.conn.state = .test)
  ∧ (s.conn.loop = .remoteEcho → OpenCall s)
  ∧ (s.signal.breakTimer.isSome → OpenCall s)
  ∧ (s.resetting = none → (s.monitor.window = none ↔ s.conn.loop = .localChar))
  ∧ (s.resetting.isSome → s.conn.loop = .normal)

/-- R138: a position that is UP, or DOWN and refused, has no role; a position that is UP has no refusal. -/
abbrev RecordOk (r : KeyRecord) : Prop :=
  (r.down = false → r.refused = false) ∧ (r.down = false ∨ r.refused = true → r.role = .none) ∧ r.count ≤ 8

/-- R137, R138, R147, R149: 72 sound debounce records, four layers of 72 entries, a drive line KD0 to KD7, and a repeat timer
that runs when there is a code to repeat. -/
abbrev KeyboardOk (s : State) : Prop :=
  s.keys.records.length = 72 ∧ (∀ r ∈ s.keys.records, RecordOk r)
  ∧ s.keys.keymap.plain.length = 72 ∧ s.keys.keymap.shift.length = 72 ∧ s.keys.keymap.ctrl.length = 72
  ∧ s.keys.keymap.fn.length = 72
  ∧ s.keys.scanLine < 8 ∧ s.keys.debounce ≤ 8
  ∧ (s.keys.repeatTimer.isSome ↔ s.keys.repeatCode.isSome)

/-- R1, R41, R96, R119, R152, R168: every setting stands within its range. -/
abbrev SettingsOk (s : State) : Prop :=
  (∀ c ∈ s.head.config, (200 ≤ c.maxWidth ∧ c.maxWidth ≤ 2500) ∧ 8 ≤ c.maxDots ∧ c.maxDots ≤ 80)
  ∧ (-3 ≤ s.supply.density ∧ s.supply.density ≤ 3)
  ∧ (50 ≤ s.supply.hotRatio ∧ s.supply.hotRatio ≤ 100 ∧ s.supply.hotRatio % 5 = 0)
  ∧ (s.format.parity = .none → s.format.eightBits = true) ∧ (s.format.speed = .b110 → s.format.twoStops = true)
  ∧ (200 ≤ s.monitor.dropoutHold ∧ s.monitor.dropoutHold ≤ 2000)
  ∧ (10 ≤ s.monitor.connectTimeout ∧ s.monitor.connectTimeout ≤ 60)
  ∧ (2 ≤ s.keys.debounce ∧ s.keys.debounce ≤ 8)
  ∧ (250 ≤ s.keys.repeatDelay ∧ s.keys.repeatDelay ≤ 1000) ∧ (5 ≤ s.keys.repeatRate ∧ s.keys.repeatRate ≤ 20)
  ∧ s.router.holdCode ≠ s.router.resumeCode
  ∧ (s.router.holdTimeout = 0 ∨ (5 ≤ s.router.holdTimeout ∧ s.router.holdTimeout ≤ 120))

/-- R177, and the layout of every frame: the lead byte C3h, a kind, a length of 0 to 40, that many bytes of payload, and a
check byte that makes all after the lead sum to 0 modulo 256. -/
abbrev FrameOk (bytes : List Byte) : Prop :=
  bytes.head? = some 0xC3 ∧ 4 ≤ bytes.length ∧ bytes.length ≤ 44 ∧ (bytes.getD 2 0).toNat + 4 = bytes.length
  ∧ bytes.tail.foldr (· + ·) 0 = 0

/-- The frame on LTXD is a frame. -/
abbrev WireOk (s : State) : Prop := ∀ f ∈ s.link.tx, FrameOk f.bytes

/-- A state that meets every invariant. -/
structure Sound (s : State) : Prop where
  queues : QueuesFit s
  slot : SlotAgrees s
  settings : SettingsOk s
  counters : CountersFit s
  wire : WireOk s
  formatter : FormatterOk s
  driver : DriverOk s
  rows : RowsOk s
  connection : ConnectionOk s
  keyboard : KeyboardOk s

end Sys2Proof.Safety
end

