-- ==== Sys2Proof/Certificates/Slice0/Obligations.lean ====
section
/-!
DEFINITION. The statements for the provers.

Throughout, some things are the model's own and not the manual's: the moment `now` and the times `dt` that rows carry (log 2);
a command row taken with the receiver outside a frame, as the whole frame at once (log 4); and `settleRow`, the judgements made
once at the end of a row (log 5, log 6).
-/

open Sys2Proof Machine Safety

/-! ### The machine as a whole -/

/-- The model's own step (log 1): the command or event at the front of the queue is carried out by `exec` with the rest of the
queue behind it, and an empty queue leaves the part as it is. -/
def Obligations.StepRunsTheFrontCommand : Prop :=
  (∀ (i : Instr) (s : State), step { s with pending := i :: s.pending } = exec i s)
    ∧ ∀ s : State, s.pending = [] → step s = .next s

/-- No command and no event stops the part: every row of the table, from every state, has a next state, in which the waiting
commands are as they were and time has not gone back. That a row that cannot happen in a state also has a next state is the
model's choice (log 3, log 15). -/
def Obligations.EveryRowGoesOn : Prop :=
  ∀ (i : Instr) (s : State), ∃ t, exec i s = .next t ∧ t.pending = s.pending ∧ s.now ≤ t.now

/-- The judgements at the end of a row (log 5, log 6), in their order: the tone follows its causes, a stall may end, the line may
be granted, a stall may begin, an idle transmitter begins a frame, and the formatter is judged again. They leave the moment, the
waiting commands, the reset, the line settings, the signal path, the Carrier Monitor and the connection as they were. When the
formatter was not STALLED they take no character: the driver, the Supply Monitor and the keyboard are untouched, of the
formatter only its owner, its activity and its two timers can change, and of the Router only the two queues of the data
reports. -/
def Obligations.RowEndFrame : Prop :=
  ∀ s : State,
    settleRow s = beginStall (grant (endStall (kickLink (beginStall (grant (endStall (settleTone s)))))))
    ∧ ((settleRow s).now = s.now ∧ (settleRow s).pending = s.pending ∧ (settleRow s).resetting = s.resetting
      ∧ (settleRow s).resetEnd = s.resetEnd ∧ (settleRow s).format = s.format ∧ (settleRow s).signal = s.signal
      ∧ (settleRow s).monitor = s.monitor ∧ (settleRow s).conn = s.conn)
    ∧ (s.fmt.activity ≠ .stalled →
      (settleRow s).head = s.head ∧ (settleRow s).supply = s.supply ∧ (settleRow s).keys = s.keys
        ∧ (∃ o a l f, (settleRow s).fmt = { s.fmt with owner := o, activity := a, lapse := l, flush := f })
        ∧ ∃ rx kd, (settleRow s).router = { s.router with rxData := rx, keyData := kd })

/-! ### The message link -/

/-- R178, R179, R182, R188: a ready command frame whose payload length is wrong for its kind is answered REJECT LENGTH before
any field is looked at, and nothing else in the part changes. A command frame begun while LRDY was low is discarded without any
check and counted; it gets no reply. When the gap timer expires a ready frame is torn: it is answered REJECT TORN with its kind
byte, or 00h before the kind byte, LINK TORN sets and the tear is counted. An unready frame is discarded and counted, whether it
tears or ends in another way. -/
def Obligations.FramesTurnedAway : Prop :=
  (∀ (i : Instr) (s : State) (dt : Micros) (kind : Byte) (p : List Byte),
    commandFrame i = some (dt, kind, p) → CanTake kind p s → lengthFits kind p = false →
      exec i s = .next (settleRow (answered dt (.reject kind .length) s)))
  ∧ (∀ (i : Instr) (s : State) (dt : Micros) (kind : Byte) (p : List Byte),
    commandFrame i = some (dt, kind, p) → CanDiscard kind p s → exec i s = .next (settleRow (discarded dt s)))
  ∧ (∀ (s : State) (dt due : Micros) (bytes : List Byte), s.resetting = none →
    (s.link.receiver = .inside true bytes → s.link.gap = some due →
      exec .gapTimerExpiry s = .next (settleRow { s with
        now := max s.now due
        link := LinkPort.setLatch .linkTorn { s.link with
          receiver := .outside
          gap := none
          replies := s.link.replies ++ [.reject (bytes.headD 0x00) .torn]
          tornFrames := min (s.link.tornFrames + 1) 65535 } }))
    ∧ (s.link.receiver = .inside false bytes → s.link.gap = some due →
      exec .gapTimerExpiry s = .next (settleRow (discarded 0 { s with now := max s.now due })))
    ∧ (s.link.receiver = .inside false bytes →
      exec (.unreadyFrame dt) s = .next (settleRow (discarded dt s))))

/-- R184, R186, R192, R193, R195: the four commands that read or restart the part queue their reply at once and change nothing
else, but that an accepted RESTART is owed its reset; a group outside the four is refused with RANGE. SET REPORTS replaces the
mask, and refuses with RANGE one with a bit outside the five kinds. A kind whose bit is clear loses its pending flag, and
CONDITION becomes pending when the command enables it while a latch is set (log 22). -/
def Obligations.LinkCommands : Prop :=
  (∀ (s : State) (dt : Micros),
    (CanTake 0x01 [] s → exec (.identify dt []) s = .next (settleRow (answered dt .identify s)))
    ∧ (CanTake 0x03 [] s → exec (.readConditions dt []) s = .next (settleRow (answered dt .conditions s)))
    ∧ (∀ g : Group, CanTake 0x04 [g.code] s →
        exec (.readStatus dt [g.code]) s = .next (settleRow (answered dt (.status g) s)))
    ∧ (∀ b : Byte, 3 < b.toNat → CanTake 0x04 [b] s →
        exec (.readStatus dt [b]) s = .next (settleRow (answered dt (.reject 0x04 .range) s)))
    ∧ (CanTake 0x02 [] s →
        exec (.restart dt []) s = .next (settleRow { answered dt .restart s with
          link := { (answered dt .restart s).link with restartOwed := true } })))
  ∧ (∀ (s : State) (dt : Micros) (b : Byte), CanTake 0x05 [b] s →
    (32 ≤ b.toNat → exec (.setReports dt [b]) s = .next (settleRow (answered dt (.reject 0x05 .range) s)))
    ∧ (b.toNat < 32 → exec (.setReports dt [b]) s = .next (settleRow { answered dt (.done 0x05) s with
        link := { (answered dt (.done 0x05) s).link with
          mask := { condition := b.getLsbD 0, lineState := b.getLsbD 1, rxData := b.getLsbD 2,
                    keyData := b.getLsbD 3, space := b.getLsbD 4 }
          pendCondition := b.getLsbD 0
            && (s.link.pendCondition || (!s.link.mask.condition && decide (s.link.latches ≠ 0)))
          pendLineState := b.getLsbD 1 && s.link.pendLineState
          pendSpace := b.getLsbD 4 && s.link.pendSpace } })))

/-- R177, R178, R179, R182: outside a frame a lead byte takes the receiver inside, and the frame is ready or unready as LRDY is
high or low at that moment; inside, a kind byte, a length byte of at most 40 or a payload byte still owed is collected. Each
starts the gap timer of 10 ms afresh. Outside a frame a byte other than C3h is discarded and counted; a length byte above 40 ends
the frame at once, a ready one answered REJECT LENGTH with its kind, an unready one discarded and counted. A ready frame whose
bytes do not sum to 0 modulo 256 is answered REJECT CHECK with its kind as received, and one of a kind outside the table REJECT
UNKNOWN; nothing else in the part changes. LRDY is high exactly while fewer than 4 replies wait, no RESTART is owed its reset
and no reset is in progress. -/
def Obligations.ReceiverTakesBytes : Prop :=
  (∀ s : State, lrdy s = true ↔
    s.link.replies.length < 4 ∧ s.link.restartOwed = false ∧ s.resetting = none)
  ∧ (∀ (s : State) (dt : Micros) (b : Byte), s.resetting = none →
    (s.link.receiver = .outside →
      exec (.leadByte dt) s = .next (settleRow { s with
        now := s.now + dt
        link := { s.link with receiver := .inside (lrdy s) [], gap := some (s.now + dt + 10000) } }))
    ∧ (∀ (isReady : Bool) (bytes : List Byte), s.link.receiver = .inside isReady bytes →
        (bytes.length = 0 ∨ (bytes.length = 1 ∧ b.toNat ≤ 40)
          ∨ (2 ≤ bytes.length ∧ bytes.length < 2 + (bytes.getD 1 0).toNat)) →
        exec (.frameByteReceived dt b) s = .next (settleRow { s with
          now := s.now + dt
          link := { s.link with receiver := .inside isReady (bytes ++ [b]), gap := some (s.now + dt + 10000) } }))
    ∧ (s.link.receiver = .outside → b ≠ 0xC3 →
      exec (.strayByte dt b) s = .next (settleRow { s with
        now := s.now + dt, link := { s.link with strayBytes := min (s.link.strayBytes + 1) 65535 } }))
    ∧ (∀ kind : Byte, s.link.receiver = .inside true [kind] → 40 < b.toNat →
      exec (.lengthByteAbove40 dt b) s = .next (settleRow (answered dt (.reject kind .length) s)))
    ∧ (∀ kind : Byte, s.link.receiver = .inside false [kind] → 40 < b.toNat →
      exec (.lengthByteAbove40 dt b) s = .next (settleRow (discarded dt s))))
  ∧ (∀ (s : State) (dt : Micros) (kind : Byte) (p : List Byte), CanTake kind p s →
    (∀ check : Byte, (kind.toNat + p.length + (p.map BitVec.toNat).sum + check.toNat) % 256 ≠ 0 →
      exec (.wrongCheckByte dt kind p check) s = .next (settleRow (answered dt (.reject kind .check) s)))
    ∧ (kind ∉ [0x01, 0x02, 0x03, 0x04, 0x05, 0x08, 0x09, 0x0B, 0x0C, 0x0D, 0x0E, 0x0F, 0x10, 0x11, 0x12, 0x13, 0x14,
          0x15, 0x16, 0x18, 0x19, 0x1A, 0x1B, 0x1C, 0x1D] →
      exec (.unknownKindFrame dt kind p) s = .next (settleRow (answered dt (.reject kind .unknown) s))))

/-- R176, R183: when the frame on LTXD ends, the transmitter is free for the arbiter's next choice at the end of the row (log
5); nothing else changes, unless the frame was RESTART's reply. A transmitter that is sending goes on. An idle one sends the
oldest reply, which leaves its queue as its frame is built; with no reply waiting, the pending report highest in the order
CONDITION, LINE STATE, RXDATA, KEYDATA, SPACE; else it stays idle. A frame of k bytes lasts k times 521 µs, its bytes with no
gap between them (log 7). On the wire a byte is a low start bit, its eight bits with the least significant first, and a high
stop bit, at 19200 bit/s; LTXD carries them in that order and rests high, as also after the last stop bit. Ten bits on LRXD
bring their byte back, and none when the stop bit is low (log 20). -/
def Obligations.TransmitterArbiter : Prop :=
  (∀ (s : State) (f : TxFrame), s.resetting = none → s.link.tx = some f → f.restart = false →
    exec .linkFrameEnd s = .next (settleRow { s with
      now := max s.now f.due, link := { s.link with tx := none } }))
  ∧ (∀ s : State,
    (s.link.tx ≠ none → kickLink s = s)
    ∧ (s.link.tx = none → ∀ r rest, s.link.replies = r :: rest →
        kickLink s = sendReply r { s with link := { s.link with replies := rest } }
          ∧ (kickLink s).link.replies = rest
          ∧ ∃ f, (kickLink s).link.tx = some f ∧ f.bytes.getD 1 0 = replyKindOf r
            ∧ f.due = s.now + 521 * f.bytes.length ∧ (f.restart = true ↔ r = .restart))
    ∧ (s.link.tx = none → s.link.replies = [] →
        match firstReport s with
        | some kind => ∃ f, (kickLink s).link.tx = some f ∧ f.bytes.getD 1 0 = kind
            ∧ f.due = s.now + 521 * f.bytes.length ∧ f.restart = false
        | none => kickLink s = s))
  ∧ (∀ s : State,
    (s.link.tx = none → ltxdHigh s = true ∧ ltxdBits s = [])
    ∧ (∀ f, s.link.tx = some f → f.due ≤ s.now → ltxdHigh s = true)
    ∧ ∀ f, s.link.tx = some f → ∀ b k j e, f.bytes[k]? = some b → e < 521 →
        s.now + 521 * f.bytes.length = f.due + 521 * k + e →
        j * 1000000 ≤ 19200 * e → 19200 * e < (j + 1) * 1000000 →
        ltxdHigh s = (if j = 0 then false else if j = 9 then true else b.getLsbD (j - 1))
        ∧ (ltxdBits s)[10 * k + j]? = some (ltxdHigh s))
  ∧ ∀ b : Byte, byteOfWire (wireBits b) = some b
    ∧ ∀ bits : List Bool, bits.length = 10 → (bits.getLast? = some false → byteOfWire bits = none)
      ∧ (byteOfWire bits = some b → bits = wireBits b)

/-- R180, R186, R189, R190, R192, R193: the frame that carries each reply, byte for byte, and nothing else in the part changes,
but that READ CONDITIONS' reply clears every latch, the kept cause and the CONDITION flag as it is built. The reasons of REJECT
count from 01h. READ STATUS' reply carries the group's code and the group's fields as they stand; the tab stops field holds one
bit for each column. -/
def Obligations.RepliesAndStatusGroups : Prop :=
  (∀ (s : State) (k : Byte) (n : Nat) (why : Reason),
    sendReply (.done k) s = sending (k + 0x80) [0x00] false s
    ∧ sendReply (.clamped k) s = sending (k + 0x80) [0x01] false s
    ∧ sendReply (.partly k n) s = sending (k + 0x80) [0x02, oneByte n] false s
    ∧ sendReply (.reject k why) s = sending 0x7F
        [k, codeIn [.check, .length, .unknown, .torn, .range, .state, .locked] why + 1] false s
    ∧ sendReply .restart s = sending 0x82 [0x00] true s
    ∧ sendReply .identify s = sending 0x81 [0x00, 0x21, 0x41, 0x43, if s.head.config = none then 0x00 else 0x01,
        codeIn [.power, .pin, .command] s.link.lastCause + 1] false s
    ∧ sendReply .conditions s = sending 0x83
        (0x00 :: twoBytes s.link.latches.toNat
          ++ [if s.link.isSet .restarted then
              (s.link.keptCause.map fun c => codeIn [.power, .pin, .command] c + 1).getD 0x00 else 0x00]
          ++ twoBytes s.link.strayBytes ++ twoBytes s.link.unreadyFrames ++ twoBytes s.link.tornFrames)
        false { s with link := { s.link with latches := 0, keptCause := none, pendCondition := false } })
  ∧ (∀ (s : State) (line : List Byte), line = lineStateBytes s →
    let held (role : KeyRole) : Bool := s.keys.records.any fun r => r.down && decide (r.role = role)
    sendReply (.status .line) s = sending 0x84
      ([0x00, 0x00] ++ line
        ++ [match s.router.slot with
            | none => 0x00
            | some f => codeIn [.hold, .resume] f.kind + 1,
          oneByte s.router.store.length, oneByte s.router.txQueue.length]
        ++ ([s.signal.received, s.router.parityErrors, s.router.framingErrors, s.router.overruns, s.signal.muted,
          s.router.discards, s.router.echoDrops].map twoBytes).flatten) false s
    ∧ (∃ tabs : List Byte, tabs.length = 5
        ∧ (∀ c, c < 40 → (tabs.getD (c / 8) 0).getLsbD (c % 8) = s.fmt.layout.tabs.contains c)
        ∧ sendReply (.status .print) s = sending 0x84
          ([0x00, 0x01, oneByte s.fmt.window.length, oneByte s.fmt.cursorLine, oneByte s.fmt.column,
            oneByte s.fmt.layout.mark, codeIn [.none, .rx, .key, .stq, .ptq] s.fmt.owner,
            match s.fmt.activity with
            | .ready => 0x00
            | .stalled => 0x01
            | .draining (.flush _) => 0x02
            | .draining (.formFeed _) => 0x03
            | .draining (.feed _ _) => 0x04,
            oneByte s.fmt.formCounter, oneByte s.fmt.ptq.length, oneByte s.fmt.stack.length,
            oneByte s.fmt.layout.left, oneByte s.fmt.layout.right,
            flagsOf [s.fmt.layout.wrap, s.fmt.layout.double, s.head.config.isSome], oneByte s.fmt.formLength]
          ++ twoBytes s.fmt.flushDelay ++ tabs
          ++ [codeIn [.unconfigured, .idle, .energizing, .burning, .stepping, .settling, .paused] s.head.state,
            flagsOf [s.head.reasons.hot, s.head.reasons.starved, s.head.reasons.batteryLow, s.head.reasons.noPaper],
            oneByte s.head.queue.length]
          ++ twoBytes s.head.rowsBurned ++ twoBytes s.head.phasesBurned) false s)
    ∧ sendReply (.status .keys) s = sending 0x84
      ([0x00, 0x02, oneByte s.keys.queue.length,
          flagsOf [s.keys.lock, held .shift, held .ctrl, held .fn],
          oneByte (s.keys.records.filter fun r => r.down).length]
        ++ twoBytes s.keys.keysLost ++ twoBytes s.keys.ghosts) false s
    ∧ sendReply (.status .supply) s = sending 0x84
      ([0x00, 0x03] ++ twoBytes (if s.supply.battery.valid then 40 * s.supply.battery.code.toNat else 0)
        ++ [if s.supply.temp.valid then
              BitVec.ofInt 8 (90 - ((s.supply.temp.code.toNat * 100 / 255 : Nat) : Int)) else 0,
            if s.supply.level.valid then s.supply.level.code else 0,
            flagsOf [s.supply.battery.valid, s.supply.temp.valid, s.supply.level.valid]]
        ++ twoBytes (iMax s)
        ++ twoBytes ((if carrierOn s.conn then 60 else 0)
          + match s.head.motor with
            | .released => 0
            | .energizing | .held => 120
            | .stepping => 350)
        ++ [oneByte s.supply.lastLimit] ++ twoBytes s.supply.lastCold ++ twoBytes s.supply.lastHot
        ++ [flagsOf [s.supply.hot, s.supply.starved, s.supply.batteryLow]]) false s)

/-- R183, R184, R185, R189, R191: each of the sixteen latches has its bit of the latch mask, from RESTARTED in bit 0 to LINK
TORN in bit 15. A latch that is clear becomes set, and CONDITION becomes pending if its kind is enabled; a latch already set
stays set and its event changes nothing; the other latches stand. With no reply waiting, an idle transmitter begins the pending
report highest in the order, built from the part as it stands: its pending flag clears as its frame begins, and an RXDATA or
KEYDATA report takes the oldest entries of its queue, 16 of them or all there are, with their count. -/
def Obligations.LatchesAndReports : Prop :=
  let mask : List Latch := [.restarted, .connectFailed, .carrierDropped, .carrierFaded, .rxOverrun, .rxError, .breakSeen,
    .holdExpired, .keyLost, .topClamp, .formatUnderflow, .paperOut, .headHot, .supplyStarved, .batteryLow, .linkTorn]
  (∀ l : Latch, l ∈ mask)
  ∧ (∀ (k : LinkPort) (l : Latch) (n : Nat), mask[n]? = some l →
    k.isSet l = k.latches.getLsbD n
    ∧ (k.isSet l = true → k.setLatch l = k)
    ∧ (k.isSet l = false → k.setLatch l = { k with
        latches := k.latches ||| (1 <<< n), pendCondition := k.pendCondition || k.mask.condition })
    ∧ (k.setLatch l).isSet l = true ∧ ∀ l', l' ≠ l → (k.setLatch l).isSet l' = k.isSet l')
  ∧ (∀ s : State, s.link.tx = none → s.link.replies = [] →
    (s.link.pendCondition = true →
      kickLink s = sending 0x61 (twoBytes s.link.latches.toNat) false
        { s with link := { s.link with pendCondition := false } })
    ∧ (s.link.pendCondition = false → s.link.pendLineState = true →
      kickLink s = sending 0x62 (lineStateBytes s) false { s with link := { s.link with pendLineState := false } })
    ∧ (s.link.pendCondition = false → s.link.pendLineState = false →
      let rx := s.link.mask.rxData && !s.router.rxData.isEmpty
      let keys := s.link.mask.keyData && !s.router.keyData.isEmpty
      (rx = true →
        kickLink s = sending 0x63 (oneByte (min 16 s.router.rxData.length) :: s.router.rxData.take 16) false
          { s with router := { s.router with rxData := s.router.rxData.drop 16 } })
      ∧ (rx = false → keys = true →
        kickLink s = sending 0x64
          (oneByte (min 16 s.router.keyData.length)
            :: (s.router.keyData.take 16).flatMap fun c => [c.code, if c.repeated then 0x01 else 0x00]) false
          { s with router := { s.router with keyData := s.router.keyData.drop 16 } })
      ∧ (rx = false → keys = false → s.link.pendSpace = true →
        kickLink s = sending 0x65 [oneByte (64 - s.fmt.ptq.length), oneByte (64 - s.router.stq.length)] false
          { s with link := { s.link with pendSpace := false } })))

/-! ### The resets -/

/-- R194, R23, R45, R52, R112, R135, R154, R175, R187: each of the three resets takes effect at once: every block is as its
chapter states for reset and is held; the head configuration is kept by a general reset and lost by a power-up reset; the
latches, the kept cause and the last cause stand until the end (log 15). RESTART's reset ends 1 ms later. While a reset is in
progress no row but a reset, RESET_END and PAPER_SENSOR_CHANGE changes anything, and the last changes the input's level alone
(log 15). -/
def Obligations.ResetsTakeEffect : Prop :=
  (∀ (s : State) (i : Instr), s.resetting ≠ none →
    (∀ dt, i ≠ .powerUpReset dt ∧ i ≠ .generalResetFromPin dt ∧ i ≠ .resetEnd dt ∧ i ≠ .paperSensorChange dt) →
    exec i s = .next s)
  ∧ (∀ (s : State) (dt : Micros), s.resetting ≠ none →
    exec (.paperSensorChange dt) s = .next { s with
      now := s.now + dt, head := { s.head with paper := !s.head.paper } })
  ∧ ∀ (s : State) (dt : Micros),
    (∃ t, exec (.powerUpReset dt) s = .next t ∧ HeldSince s (s.now + dt) .power none none t)
    ∧ (s.resetting ≠ some .power →
      ∃ t, exec (.generalResetFromPin dt) s = .next t ∧ HeldSince s (s.now + dt) .pin s.head.config none t)
    ∧ (s.resetting = some .power →
      ∃ t, exec (.generalResetFromPin dt) s = .next t ∧ HeldSince s (s.now + dt) .power s.head.config none t)
    ∧ ∀ f : TxFrame, s.resetting = none → s.link.tx = some f → f.restart = true →
      ∃ t, exec .linkFrameEnd s = .next t
        ∧ HeldSince s (max s.now f.due) .command s.head.config (some (max s.now f.due + 1000)) t

/-- R194, R196, R20, R24, R113, R137: when a reset ends, its cause is written, the latches are cleared and RESTARTED sets,
LRDY is high, and the first frame, C3h 61h 02h 01h 00h 9Ch, begins at that moment; the converter, the window, the scan and, if
paper reads present, the paper-present timer begin. -/
def Obligations.ResetEnds : Prop :=
  ∀ (r s : State) (dt at0 : Micros) (cause : Cause) (cfg : Option HeadConfig) (ends : Timer),
    HeldSince r at0 cause cfg ends s →
      ∃ t, exec (.resetEnd dt) s = .next t
        ∧ t.now = (match ends with | some due => max at0 due | none => at0 + dt)
        ∧ t.resetting = none ∧ t.link.lastCause = cause ∧ t.link.keptCause = some cause ∧ t.link.latches = 1
        ∧ ltxd t = [0xC3, 0x61, 0x02, 0x01, 0x00, 0x9C] ∧ lrdy t = true ∧ t.link.pendCondition = false
        ∧ t.head = { Head.reset cfg r.head.paper with
            paperTimer := if r.head.paper then some (t.now + 1000000) else none }
        ∧ t.supply = { Supply.reset with conversion := some (t.now + 1000) }
        ∧ t.monitor = { Monitor.reset with window := some (t.now + 10000) }
        ∧ t.keys = { Keys.reset with slot := some (t.now + 500) }
        ∧ t.fmt = .reset ∧ t.format = .reset ∧ t.conn = .reset ∧ t.router = .reset ∧ t.signal = .reset
        ∧ t.tone = .reset

/-- The model's reset state (log 8) is a power-up reset that has taken effect and ended at the moment 0, with no paper and
nothing waiting, whatever went before; and it meets every invariant. -/
def Obligations.ResetStateIsPowerUp : Prop :=
  (∀ s u t : State, s.now = 0 → s.pending = [] → s.head.paper = false →
    exec (.powerUpReset 0) s = .next u → exec (.resetEnd 0) u = .next t → t = State.reset)
  ∧ Sound State.reset

/-! ### The Head Driver and the Supply Monitor -/

/-- R1, R2, R5, R8, R41: SET HEAD on a head that is not configured: a class outside the four is refused with RANGE; else the
configuration takes the class and the two clamped numbers, the driver becomes IDLE, and with an entry waiting it begins a row
cycle, which with the motor RELEASED starts the 20 ms of ENERGIZING. On a configured head it is refused with LOCKED. SET
DENSITY replaces D, clamped to -3 to +3, H, rounded down to a multiple of 5 and clamped to 50 to 100, and the boost switch; a
boost field other than off or on is refused with RANGE, and the reply is CLAMPED if D or H was stored as another value. -/
def Obligations.HeadCommands : Prop :=
  (∀ (s : State) (dt : Micros) (cls w0 w1 n : Byte), CanTake 0x08 [cls, w0, w1, n] s →
    (s.head.config ≠ none →
      exec (.setHead dt [cls, w0, w1, n]) s = .next (settleRow (answered dt (.reject 0x08 .locked) s)))
    ∧ (s.head.config = none → 3 < cls.toNat →
      exec (.setHead dt [cls, w0, w1, n]) s = .next (settleRow (answered dt (.reject 0x08 .range) s)))
    ∧ ∀ (named : HeadClass) (w : Nat), s.head.config = none → [HeadClass.a, .b, .c, .d][cls.toNat]? = some named →
      w = w0.toNat + 256 * w1.toNat →
      let r := doneReply 0x08 (w < 200 ∨ 2500 < w ∨ n.toNat < 8 ∨ 80 < n.toNat)
      let cfg : HeadConfig :=
        { cls := named, maxWidth := max 200 (min 2500 w), maxDots := max 8 (min 80 n.toNat) }
      (s.head.queue = [] →
        exec (.setHead dt [cls, w0, w1, n]) s = .next (settleRow { answered dt r s with
          head := { s.head with config := some cfg, state := .idle } }))
      ∧ ∀ e rest, s.head.queue = e :: rest → s.head.motor = .released →
        exec (.setHead dt [cls, w0, w1, n]) s = .next (settleRow { answered dt r s with
          head := { s.head with
            config := some cfg, state := .energizing, queue := rest, row := some e.record, reasons := .none
            waiting := false, hold := none, motor := .energizing, energize := some (s.now + dt + 20000) } }))
  ∧ (∀ (s : State) (dt : Micros) (d h b : Byte), CanTake 0x09 [d, h, b] s →
    (1 < b.toNat →
      exec (.setDensity dt [d, h, b]) s = .next (settleRow (answered dt (.reject 0x09 .range) s)))
    ∧ (b.toNat ≤ 1 →
      let r := doneReply 0x09
        (d.toInt < -3 ∨ 3 < d.toInt ∨ h.toNat < 50 ∨ 100 < h.toNat ∨ h.toNat % 5 ≠ 0)
      exec (.setDensity dt [d, h, b]) s = .next (settleRow { answered dt r s with
        supply := { s.supply with
          density := max (-3) (min 3 d.toInt)
          hotRatio := max 50 (min 100 (h.toNat - h.toNat % 5))
          boost := decide (b = 1) } })))

/-- R4, R6, R8, R9, R17: at the end of ENERGIZING the motor is HELD and the driver makes the start it was on its way to make;
at the end of the hold timer the motor is RELEASED, and nothing else changes. A driver that takes the oldest entry makes it
its current row; with the motor RELEASED it enters ENERGIZING, with the motor HELD a FEED makes its first step start, and a
BURN row enters BURNING and makes its first phase start (log 11), or waits for the end of the settle period in SETTLING. -/
def Obligations.MotorAndRowCycles : Prop :=
  (∀ (s : State) (due : Micros), s.resetting = none →
    (s.head.energize = some due →
      (∀ c left, s.head.row = some (.feed c left) →
        exec .energizingTimerExpiry s = .next (settleRow (stepStart true { s with
          now := max s.now due, head := { s.head with energize := none, motor := .held, hold := none } })))
      ∧ (∀ r, s.head.row = some (.burn r) → r.next = .step →
        exec .energizingTimerExpiry s = .next (settleRow (stepStart false { s with
          now := max s.now due, head := { s.head with energize := none, motor := .held, hold := none } })))
      ∧ (∀ r, s.head.row = some (.burn r) → r.next = .phase → r.hot = none → s.head.settle ≠ none →
        exec .energizingTimerExpiry s = .next (settleRow { s with
          now := max s.now due
          head := { s.head with
            energize := none, motor := .held, hold := none, state := .settling, reasons := .none, waiting := false } }))
      ∧ (∀ r cfg, s.head.row = some (.burn r) → r.next = .phase → (r.hot ≠ none ∨ s.head.settle = none) →
        s.head.config = some cfg →
        exec .energizingTimerExpiry s = .next (settleRow (phaseStart cfg r { s with
          now := max s.now due
          head := { s.head with
            energize := none, motor := .held, hold := none, state := .burning, reasons := .none } }))))
    ∧ (s.head.hold = some due →
      exec .holdTimerExpiry s = .next (settleRow { s with
        now := max s.now due, head := { s.head with hold := none, motor := .released } })))
  ∧ (∀ (s : State) (e : RowEntry) (rest : List RowEntry), s.head.queue = e :: rest →
    (s.head.motor = .released →
      beginRow s = { s with head := { s.head with
        queue := rest, row := some e.record, state := .energizing, reasons := .none, waiting := false, hold := none
        motor := .energizing, energize := some (s.now + 20000) } })
    ∧ (s.head.motor = .held → ∀ n, e = .feed n →
      beginRow s = stepStart true { s with head := { s.head with
        queue := rest, row := some (.feed n n), hold := none } })
    ∧ (s.head.motor = .held → ∀ dots, e = .burn dots →
      let r : BurnRow := { marked := dots, hot := none, burned := [], next := .phase }
      (s.head.settle ≠ none → beginRow s = { s with head := { s.head with
        queue := rest, row := some (.burn r), state := .settling, reasons := .none, waiting := false, hold := none } })
      ∧ ∀ cfg, s.head.settle = none → s.head.config = some cfg →
        beginRow s = phaseStart cfg r { s with head := { s.head with
          queue := rest, row := some (.burn r), state := .burning, reasons := .none, hold := none } }))

/-- R7, R14, R15, R16, R18, R30, R35: a step start. Without a valid battery reading it waits and the state stays (log 11). With
paper present and I_max at least 350 mA, or 410 mA with the transmit carrier on, a step of 2.5 ms begins, one position on, and a
FEED's step empties the dot history. Otherwise the driver enters PAUSED with NO PAPER, STARVED or both, PAPER OUT and SUPPLY
STARVED set by their events, and the hold timer starts if the motor is HELD. The motor outputs driven are the two of the motor
position, and none while the motor is RELEASED. -/
def Obligations.StepStartIsJudged : Prop :=
  ∀ (s : State) (ofFeed : Bool),
    let starved := decide (iMax s < if carrierOn s.conn then 410 else 350)
    (s.supply.battery.valid = false →
      stepStart ofFeed s = { s with head := { s.head with waiting := true } })
    ∧ (s.supply.battery.valid = true → s.head.paper = true → starved = false →
      stepStart ofFeed s = { s with
        supply := { s.supply with starved := false }
        head := { s.head with
          state := .stepping, reasons := .none, waiting := false, position := (s.head.position + 1) % 4
          motor := .stepping, step := some (s.now + 2500)
          history := if ofFeed then [] else s.head.history } })
    ∧ (s.supply.battery.valid = true → (s.head.paper = false ∨ starved = true) →
      stepStart ofFeed s = { s with
        supply := { s.supply with starved := starved }
        link :=
          let k := if starved = true ∧ s.supply.starved = false then s.link.setLatch .supplyStarved else s.link
          if s.head.paper then k else k.setLatch .paperOut
        head := { s.head with
          state := .paused, waiting := false
          reasons := { hot := false, starved := starved, batteryLow := false, noPaper := !s.head.paper }
          hold := if s.head.motor = .held then some (s.now + 400000) else s.head.hold } })
    ∧ motorOutputs s = (if s.head.motor = .released then (false, false, false, false)
        else match s.head.position with
          | 0 => (true, true, false, false)
          | 1 => (false, true, true, false)
          | 2 => (false, false, true, true)
          | 3 => (true, false, false, true)
          | _ => (false, false, false, false))

/-- R10, R11, R12, R18, R30, R36: a phase start. Without a valid battery and temperature reading it waits (log 11). Else N and
the widths are recorded and STARVED is judged by whether N is below 4; with HOT, STARVED or BATTERY LOW indicated the driver
enters PAUSED with each as a reason, and SUPPLY STARVED sets where STARVED becomes set; with none the split is made or kept,
boost is set to 2 at a first phase after a rest of 5 s or more, and the phase's dots are loaded for 80 µs. -/
def Obligations.PhaseStartIsJudged : Prop :=
  ∀ (s : State) (cfg : HeadConfig) (r : BurnRow),
    let rested := decide (r.hot = none) && (match s.head.lastPulse with
      | none => true
      | some t => decide (5000000 ≤ s.now - t))
    let boost := if rested then 2 else s.head.boostRows
    let f := figures cfg boost s
    let hot := r.hot.getD (match s.head.lastPulse with
      | none => []
      | some t => if s.now - t ≤ 50000 then r.marked.filter fun d => s.head.history.contains d else [])
    let supply := { s.supply with
      lastLimit := f.limit, lastCold := f.cold, lastHot := f.hot, starved := decide (f.limit < 4) }
    ((s.supply.battery.valid && s.supply.temp.valid) = false →
      phaseStart cfg r s = { s with head := { s.head with waiting := true } })
    ∧ ((s.supply.battery.valid && s.supply.temp.valid) = true →
        s.supply.hot = false → s.supply.batteryLow = false → 4 ≤ f.limit →
        phaseStart cfg r s = { s with
          supply := supply
          head := { s.head with
            state := .burning, reasons := .none, waiting := false, boostRows := boost
            row := some (.burn { r with hot := some hot })
            phase := some { dots := r.pack hot f.limit
                            width := if (r.coldLeft hot).isEmpty then f.hot else f.cold
                            loading := true, due := s.now + 80 } } })
    ∧ ((s.supply.battery.valid && s.supply.temp.valid) = true →
        (s.supply.hot = true ∨ s.supply.batteryLow = true ∨ f.limit < 4) →
        phaseStart cfg r s = { s with
            supply := supply
            link := if f.limit < 4 ∧ s.supply.starved = false then s.link.setLatch .supplyStarved else s.link
            head := { s.head with
              state := .paused, waiting := false
              reasons := { hot := s.supply.hot, starved := decide (f.limit < 4), batteryLow := s.supply.batteryLow
                           noPaper := false }
              hold := if s.head.motor = .held then some (s.now + 400000) else s.head.hold } })

/-- R9, R12, R13, R15, R17: at the end of loading the strobe begins for the phase's width. At the end of the pulse its dots join
the burned set and the phase is counted; while marked dots are left the next phase start is made, and else the row is complete:
the history becomes its marked set, the boost row count falls, the row is counted, and its step start is made. A step ends with
the motor HELD. A FEED with steps still to be made makes the next step start at once. The last step of a FEED of 2 or more starts
the settle period of 10 ms. The end of a row cycle leaves the driver IDLE with the hold timer of 400 ms, or begins the next row
cycle. The load of a phase is 320 pulses of HCLK, with a bit that is 1 for its dots alone on HDAT, dot 319 first, and then
one of HLAT, all within LOADING and at no other time; whatever the head's register held, it then has latched the phase's dots and
no other (log 20). During the pulse alone, every strobe line is asserted whose block of 40 dots holds one of them. -/
def Obligations.PhasesAndStepsEnd : Prop :=
  (∀ (s : State) (n : Nat),
    (strobe s n = true ↔ ∃ p, s.head.phase = some p ∧ p.loading = false ∧ ∃ d ∈ p.dots, 40 * n ≤ d ∧ d ≤ 40 * n + 39)
    ∧ ∀ p : Phase, (shiftedBits p).length = 320
      ∧ (n < 320 → (shiftedBits p)[n]? = some (decide (319 - n ∈ p.dots))
        ∧ (loadPulses p)[n]? = some (.clock (decide (319 - n ∈ p.dots))))
      ∧ (loadPulses p)[320]? = some .latch ∧ (loadPulses p).length = 321
      ∧ (s.head.phase = some p → headPulses s = if p.loading then loadPulses p else [])
      ∧ (s.head.phase = none → headPulses s = [])
      ∧ ∀ register latched : List Bool, n < 320 →
        ((loadPulses p).foldl headAfter (register, latched)).2[n]? = some (decide (n ∈ p.dots)))
  ∧ (∀ (s : State) (p : Phase), s.resetting = none → s.head.phase = some p →
    (p.loading = true →
      exec .loadingEnd s = .next (settleRow { s with
        now := max s.now p.due
        head := { s.head with phase := some { p with loading := false, due := max s.now p.due + p.width } } }))
    ∧ ∀ (r : BurnRow) (cfg : HeadConfig), p.loading = false → s.head.row = some (.burn r) →
        s.head.config = some cfg →
      let t := max s.now p.due
      let r1 := { r with burned := r.burned ++ p.dots }
      let h := { s.head with
        phase := none, lastPulse := some t, phasesBurned := min (s.head.phasesBurned + 1) 65535 }
      ((∃ d ∈ r.marked, d ∉ r1.burned) →
        exec .pulseEnd s = .next (settleRow (phaseStart cfg r1 { s with
          now := t, head := { h with row := some (.burn r1) } })))
      ∧ ((∀ d ∈ r.marked, d ∈ r1.burned) →
        exec .pulseEnd s = .next (settleRow (stepStart false { s with
          now := t
          head := { h with
            row := some (.burn { r1 with next := .step })
            history := r.marked
            boostRows := s.head.boostRows - 1
            rowsBurned := min (s.head.rowsBurned + 1) 65535 } }))))
  ∧ (∀ (s : State) (due : Micros), s.resetting = none → s.head.step = some due →
    let t := max s.now due
    let h := { s.head with step := none, motor := .held }
    (∀ c left, s.head.row = some (.feed c left) → 2 ≤ left →
      exec .stepEnd s = .next (settleRow (stepStart true { s with
        now := t, head := { h with row := some (.feed c (left - 1)) } })))
    ∧ ∀ settle, ((∃ r, s.head.row = some (.burn r)) ∧ settle = s.head.settle)
        ∨ (∃ c left, s.head.row = some (.feed c left) ∧ left ≤ 1
            ∧ settle = if 2 ≤ c then some (t + 10000) else s.head.settle) →
      (s.head.queue = [] →
        exec .stepEnd s = .next (settleRow { s with
          now := t
          head := { h with settle := settle, state := .idle, row := none, hold := some (t + 400000) } }))
      ∧ (s.head.queue ≠ [] →
        exec .stepEnd s = .next (settleRow (beginRow { s with
          now := t, head := { h with settle := settle, row := none } }))))

/-- R17, R20: the settle period's end makes the first phase start of a driver in SETTLING, which enters BURNING also where that
start must wait for a reading (log 11), and is otherwise only over; a change of the paper sensor starts or stops the timer of 1
s, whose end changes nothing of a driver that is not PAUSED. -/
def Obligations.SettlingAndPaper : Prop :=
  ∀ (s : State) (dt due : Micros), s.resetting = none →
    (s.head.settle = some due →
      (s.head.state ≠ .settling →
        exec .settlePeriodEnd s = .next (settleRow { s with
          now := max s.now due, head := { s.head with settle := none } }))
      ∧ ∀ r cfg, s.head.state = .settling → s.head.row = some (.burn r) → r.next = .phase →
        s.head.config = some cfg →
        exec .settlePeriodEnd s = .next (settleRow (phaseStart cfg r { s with
          now := max s.now due
          head := { s.head with settle := none, state := .burning, reasons := .none, hold := none } })))
    ∧ exec (.paperSensorChange dt) s = .next (settleRow { s with
        now := s.now + dt
        head := { s.head with
          paper := !s.head.paper
          paperTimer := if s.head.paper then none else some (s.now + dt + 1000000) } })
    ∧ (s.head.paperTimer = some due → s.head.state ≠ .paused →
      exec .paperPresentTimerExpiry s = .next (settleRow { s with
        now := max s.now due, head := { s.head with paperTimer := none } }))

/-- R10, R14, R24, R26, R28, R29: a reading with no pause: the code becomes the latest reading and its flag is set, and the next
conversion, of the next channel, ends 1 ms later. HOT sets at 65 °C or more with HEAD HOT, and clears at 55 °C or less. BATTERY
LOW changes at the second of two readings in a row below 5400 mV, or of 5800 mV or more. With no start waiting that is all; a start
that waits for a first reading is made again at a battery or temperature reading, and a level reading does not make it. -/
def Obligations.ReadingsAreJudged : Prop :=
  ∀ (s : State) (due : Micros) (c : Byte), s.resetting = none → s.supply.conversion = some due →
    s.head.state ≠ .paused →
    (s.head.waiting = false ∨ s.supply.channel = .level →
      exec (.converterReading c) s = .next (settleRow (readingTaken due c s)))
    ∧ (s.head.waiting = true → s.supply.channel ≠ .level → ∀ t, startedAgain (readingTaken due c s) = some t →
      exec (.converterReading c) s = .next (settleRow t))

/-- R19, R20, R21, R31: what ends a pause. A temperature of 55 °C or less removes HOT, the second battery reading of 5800 mV or
more removes BATTERY LOW, and the paper-present timer NO PAPER. STARVED, alone or with others, is judged afresh at each battery
reading, using that reading: a refused phase start by its N, which is recorded, and a refused step start, of a FEED or of a
complete BURN row, by its headroom; still starved, the reason stands. One battery reading can remove STARVED and BATTERY LOW
together. While a reason is left the pause goes on, and those that went are removed and no more; a reading that clears nothing
removes none. When the last is removed the driver resumes: with the motor RELEASED it enters ENERGIZING, and with the motor HELD
it makes the refused start again. -/
def Obligations.PausesEnd : Prop :=
  ∀ (s : State) (due : Micros) (c : Byte), s.resetting = none → s.head.state = .paused → s.head.waiting = false →
    let u := readingTaken due c s
    let others (r : Reasons) : State := { u with head := { u.head with reasons := r } }
    (s.supply.conversion = some due → s.supply.channel = .temp → s.supply.hot = true →
        90 - (c.toNat * 100 / 255 : Nat) ≤ (55 : Int) →
      (s.head.reasons = onlyHot → s.supply.battery.valid = true → ∀ t, Resumed u t →
        exec (.converterReading c) s = .next (settleRow t))
      ∧ ((s.head.reasons.starved || s.head.reasons.batteryLow || s.head.reasons.noPaper) = true →
        exec (.converterReading c) s = .next (settleRow (others { s.head.reasons with hot := false }))))
    ∧ (s.supply.conversion = some due → s.supply.channel = .battery → ∀ (starved : Bool) (v : State),
        ((s.head.reasons.starved = false ∧ starved = false ∧ v = u)
          ∨ (s.head.reasons.starved = true ∧ JudgedAfresh u starved v)) →
        (starved = true → s.supply.starved = true) →
      let left := reasonsAfterBattery s c starved
      ((left.hot || left.starved || left.batteryLow || left.noPaper) = true →
        exec (.converterReading c) s = .next (settleRow { v with head := { v.head with reasons := left } }))
      ∧ (left = .none → s.head.reasons ≠ .none → ∀ t, Resumed v t →
        exec (.converterReading c) s = .next (settleRow t)))
    ∧ (s.supply.conversion = some due →
        (s.supply.channel = .level ∨ (s.supply.channel = .temp ∧ (s.supply.hot = false
          ∨ (55 : Int) < 90 - (c.toNat * 100 / 255 : Nat)))) →
      exec (.converterReading c) s = .next (settleRow u))
    ∧ (s.head.paperTimer = some due →
      let v : State := { s with now := max s.now due, head := { s.head with paperTimer := none } }
      (s.head.reasons = onlyNoPaper → ∀ t, Resumed v t →
        exec .paperPresentTimerExpiry s = .next (settleRow t))
      ∧ ((s.head.reasons.hot || s.head.reasons.starved || s.head.reasons.batteryLow) = true →
        exec .paperPresentTimerExpiry s = .next (settleRow { v with
          head := { v.head with reasons := { s.head.reasons with noPaper := false } } })))

/-- R26, R33: the quantities derived from a code, with the codes at the edges, and the ceiling current by the battery voltage,
0 while the battery reading is invalid, as the SUPPLY group shows it. -/
def Obligations.DerivedQuantities : Prop :=
  (∀ (c : Byte),
    millivolts c = 40 * c.toNat ∧ millivolts c ≤ 10200
    ∧ celsius c = 90 - (c.toNat * 100 / 255 : Nat) ∧ -10 ≤ celsius c ∧ celsius c ≤ 90
    ∧ celsius 0 = 90 ∧ celsius 255 = -10
    ∧ (65 ≤ celsius c ↔ c.toNat ≤ 66) ∧ (celsius c ≤ 55 ↔ 90 ≤ c.toNat)
    ∧ (millivolts c < 5400 ↔ c.toNat ≤ 134) ∧ (5800 ≤ millivolts c ↔ 145 ≤ c.toNat)
    ∧ (7000 ≤ millivolts c ↔ 175 ≤ c.toNat)
    ∧ (135 ≤ c.toNat → c.toNat < 145 → ceilingCurrent (millivolts c + 40) = ceilingCurrent (millivolts c) + 40)
    ∧ (145 ≤ c.toNat → c.toNat < 175 → ceilingCurrent (millivolts c + 40) = ceilingCurrent (millivolts c) + 53
        ∨ ceilingCurrent (millivolts c + 40) = ceilingCurrent (millivolts c) + 54))
  ∧ (∀ v : Nat,
    (7000 ≤ v → ceilingCurrent v = 2400)
    ∧ (5800 ≤ v → v ≤ 6999 → ceilingCurrent v = 800 + (v - 5800) * 4 / 3)
    ∧ (5400 ≤ v → v ≤ 5799 → ceilingCurrent v = 400 + (v - 5400))
    ∧ (v < 5400 → ceilingCurrent v = 0)
    ∧ ceilingCurrent v ≤ ceilingCurrent (v + 1)
    ∧ (5400 ≤ v → ceilingCurrent (v + 1) ≤ ceilingCurrent v + 2))
  ∧ ∀ s : State,
    iMax s = (if s.supply.battery.valid then ceilingCurrent (millivolts s.supply.battery.code) else 0)
    ∧ (supplyGroup s).getD 5 0 = BitVec.ofNat 8 (iMax s) ∧ (supplyGroup s).getD 6 0 = BitVec.ofNat 8 (iMax s / 256)
    ∧ (supplyGroup s).getD 3 0 = if s.supply.level.valid then s.supply.level.code else 0

/-- R1, R36, R37, R39, R40, R42, R43: the figures of a phase start, stage by stage, from the class's resistance and base width,
the readings, the carrier, and the density settings and the boost row count as they stand. N is what the free current gives,
rounded down, capped at the maximum dots per phase; the cold width follows the temperature, the voltage twice, the density, and
the boost while it is on and the count is above 0; the hot width is H parts in a hundred of it, and at least 100 µs. So the dots
of a phase draw no more than the free current, the cap cannot make a start starved, and the widths lie from 100 µs to the maximum
pulse width, the hot one never above the cold one. -/
def Obligations.FiguresByStages : Prop :=
  (∀ (cfg : HeadConfig) (boostRows : Nat) (s : State),
    let f := figures cfg boostRows s
    let table : Nat × Nat := match cfg.cls with
      | .a => (120, 700)
      | .b => (150, 850)
      | .c => (180, 1000)
      | .d => (220, 1200)
    let vc := max 5400 (min 9000 (40 * s.supply.battery.code.toNat))
    let dot := (vc + (table.1 - 1)) / table.1
    let free := iMax s - (if carrierOn s.conn then 180 else 120)
    let degrees : Int := 90 - (s.supply.temp.code.toNat * 100 / 255 : Nat)
    let kT : Int := 100 - (max (-10) (min 70 degrees) - 25)
    let a1 := (table.2 : Int) * kT / 100
    let a3 := a1 * 7200 / vc * 7200 / vc
    let a4 := a3 * (100 + 6 * s.supply.density) / 100
    let a5 := if s.supply.boost = true ∧ 0 < boostRows then a4 * 112 / 100 else a4
    f.limit = min (free / dot) cfg.maxDots
    ∧ (f.cold : Int) = max 100 (min (cfg.maxWidth : Int) a5)
    ∧ f.hot = max 100 (f.cold * s.supply.hotRatio / 100)
    ∧ f.limit * dot ≤ free
    ∧ (8 ≤ cfg.maxDots → (f.limit < 4 ↔ free / dot < 4)))
  ∧ ∀ (cfg : HeadConfig) (boostRows : Nat) (s : State),
    200 ≤ cfg.maxWidth → s.supply.hotRatio ≤ 100 →
    let f := figures cfg boostRows s
    100 ≤ f.hot ∧ f.hot ≤ f.cold ∧ f.cold ≤ cfg.maxWidth

/-- R38: a phase takes the unburned dots of the current class from the lowest position, as many as N allows or all that
remain; it never mixes the classes, and the class is cold while a cold dot is unburned. A row of c cold and h hot dots burned
under an unchanging N takes ceil(c / N) cold phases and ceil(h / N) hot phases; each marked dot is burned in exactly one
phase, and no unmarked dot is burned. -/
def Obligations.RowsSplitIntoPhases : Prop :=
  (∀ (r : BurnRow) (hot : List Nat) (n : Nat), 1 ≤ n → r.marked.Pairwise (· < ·) →
    (∃ d ∈ r.marked, d ∉ r.burned) →
    let dots := r.pack hot n
    let cold := r.marked.filter fun d => decide (d ∉ hot) && decide (d ∉ r.burned)
    let warm := r.marked.filter fun d => decide (d ∈ hot) && decide (d ∉ r.burned)
    dots ≠ [] ∧ dots.length ≤ n ∧ dots.Pairwise (· < ·)
      ∧ (cold ≠ [] → dots = cold.take n) ∧ (cold = [] → dots = warm.take n)
      ∧ ∀ d ∈ dots, d ∈ r.marked ∧ d ∉ r.burned)
  ∧ (∀ (marked hot : List Nat) (n : Nat), 1 ≤ n → marked.Pairwise (· < ·) →
    let r : BurnRow := { marked := marked, hot := some hot, burned := [], next := .phase }
    let phases := phasesOf n marked.length r hot
    let c := (marked.filter fun d => decide (d ∉ hot)).length
    let h := (marked.filter fun d => decide (d ∈ hot)).length
    phases.length = (c + n - 1) / n + (h + n - 1) / n
      ∧ phases.flatten.Nodup ∧ (∀ d, d ∈ phases.flatten ↔ d ∈ marked)
      ∧ ∀ p ∈ phases, (∀ d ∈ p, d ∉ hot) ∨ (∀ d ∈ p, d ∈ hot))

/-! ### The Print Formatter -/

/-- R77, R81, R82, R83, R89, R164: PRINT TEXT and SEND TEXT take as many of their 1 to 38 codes as their queue has free
places, from the first; a rest left over is answered PARTIAL with the count taken and sets the wanted flag. SAVE FORMAT,
RESTORE FORMAT and FEED place a directive record, FEED's count 0 raised to 1; at a full print text queue the reply is PARTIAL
with the count 0 and the wanted flag is set. LOAD GLYPH replaces the soft pattern of a code 80h to 8Fh, and refuses another
with RANGE. -/
def Obligations.TextDirectivesAndGlyphs : Prop :=
  (∀ (s : State) (dt : Micros) (p : List Byte), 1 ≤ p.length → p.length ≤ 38 →
    (CanTake 0x0B p s →
      let n := min (64 - s.fmt.ptq.length) p.length
      let r := if n = p.length then Reply.done 0x0B else .partly 0x0B n
      exec (.printText dt p) s = .next (settleRow { answered dt r s with
        fmt := { s.fmt with
          ptq := s.fmt.ptq ++ (p.take n).map .char
          ptqWanted := s.fmt.ptqWanted || decide (n < p.length) } }))
    ∧ (CanTake 0x1A p s →
      let n := min (64 - s.router.stq.length) p.length
      let r := if n = p.length then Reply.done 0x1A else .partly 0x1A n
      exec (.sendText dt p) s = .next (settleRow { answered dt r s with
        router := { s.router with
          stq := s.router.stq ++ p.take n
          stqWanted := s.router.stqWanted || decide (n < p.length) } })))
  ∧ (∀ (s : State) (dt : Micros),
    (CanTake 0x0D [] s → exec (.saveFormat dt []) s = .next (settleRow (placed dt 0x0D False .saveFormat s)))
    ∧ (CanTake 0x0E [] s → exec (.restoreFormat dt []) s = .next (settleRow (placed dt 0x0E False .restoreFormat s)))
    ∧ (∀ n : Byte, CanTake 0x0F [n] s →
      exec (.feed dt [n]) s = .next (settleRow (placed dt 0x0F (n.toNat = 0) (.feed (max 1 n.toNat)) s)))
    ∧ ∀ (c : Byte) (rows : List Byte), rows.length = 10 → CanTake 0x10 (c :: rows) s →
      (0x80 ≤ c.toNat → c.toNat ≤ 0x8F →
        exec (.loadGlyph dt (c :: rows)) s = .next (settleRow { answered dt (.done 0x10) s with
          fmt := { s.fmt with soft := s.fmt.soft.set (c.toNat - 0x80) rows } }))
      ∧ (c.toNat < 0x80 ∨ 0x8F < c.toNat →
        exec (.loadGlyph dt (c :: rows)) s = .next (settleRow (answered dt (.reject 0x10 .range) s))))

/-- R82, R85, R188: a SET FORMAT payload written from its fields, each present or absent, reads back as those fields, and the
record that joins the queue holds them clamped; a switch that is neither off nor on, margins that cross, more than 16 stops
and stops not in ascending order are refused with RANGE. -/
def Obligations.SetFormatReadsItsFields : Prop :=
  ∀ (r : RawFormat) (s : State) (dt : Micros),
    (∀ ts ∈ r.tabs, ts.length ≤ 30) → (∀ d ∈ r.flushDelay, d ≤ 65535) →
    splitFormat (formatPayload r) = some r ∧ formatLengthFits (formatPayload r) = true
    ∧ (CanTake 0x0C (formatPayload r) s →
      (FormatGood r →
        exec (.setFormat dt (formatPayload r)) s = .next (settleRow (placed dt 0x0C (FormatMoved r)
          (.setFormat (clampedFields r)) s)))
      ∧ (¬ FormatGood r →
        exec (.setFormat dt (formatPayload r)) s = .next (settleRow (answered dt (.reject 0x0C .range) s))))

/-- R50, R71, R86, R87, R88, R89, R90: SET FORMAT's record replaces the fields it gives, a margin given alone giving way so that
left stays below right, and the column is clamped into the margins when it gives one; a form length given sets the counter to 0.
SAVE FORMAT pushes the six values, the oldest of four snapshots going; RESTORE FORMAT takes the newest back, or sets FORMAT
UNDERFLOW. No directive needs room. At their taking the three are carried out, PTQ keeps the line, its lapse timer restarts, and
the flush timer starts with the delay as it then stands unless that is 0; a FEED ends PTQ's ownership at its taking and begins
its drain, with both timers stopped. -/
def Obligations.DirectivesAreCarriedOut : Prop :=
  ∀ s : State,
    (∀ f : FormatFields, (∀ l ∈ f.left, ∀ r ∈ f.right, l < r) →
      let left := f.left.getD s.fmt.layout.left
      let right := f.right.getD s.fmt.layout.right
      let l := if f.left.isSome ∧ right ≤ left then right - 1 else left
      let r := if f.left = none ∧ f.right.isSome ∧ right ≤ left then left + 1 else right
      carryDirective (.setFormat f) s = { s with fmt := { s.fmt with
        layout := { left := l, right := r, wrap := f.wrap.getD s.fmt.layout.wrap
                    double := f.double.getD s.fmt.layout.double, mark := f.mark.getD s.fmt.layout.mark
                    tabs := f.tabs.getD s.fmt.layout.tabs }
        column := if f.left.isSome ∨ f.right.isSome then max l (min r s.fmt.column) else s.fmt.column
        formLength := f.formLength.getD s.fmt.formLength
        formCounter := if f.formLength.isSome then 0 else s.fmt.formCounter
        flushDelay := f.flushDelay.getD s.fmt.flushDelay } })
    ∧ carryDirective .saveFormat s = { s with fmt := { s.fmt with
        stack := (s.fmt.layout :: s.fmt.stack).take 4 } }
    ∧ (∀ top rest, s.fmt.stack = top :: rest →
      carryDirective .restoreFormat s = { s with fmt := { s.fmt with
        stack := rest, layout := top, column := max top.left (min top.right s.fmt.column) } })
    ∧ (s.fmt.stack = [] →
      carryDirective .restoreFormat s = { s with link := s.link.setLatch .formatUnderflow })
    ∧ (∀ n, carryDirective (.feed n) s = { s with fmt := { s.fmt with
        activity := .draining (.feed n false), lapse := none, flush := none } })
    ∧ (∀ d, s.fmt.needsRoom (.directive d) = false)
    ∧ (∀ d, (∀ n, d ≠ .feed n) →
      let t := carryDirective d { s with fmt := { s.fmt with owner := .ptq, activity := .ready } }
      takeItem .ptq (.directive d) s = { t with fmt := { t.fmt with
        owner := .ptq, activity := .ready, lapse := some (s.now + 2000000)
        flush := if t.fmt.flushDelay = 0 then none else some (s.now + 1000 * t.fmt.flushDelay) } })
    ∧ ∀ n, takeItem .ptq (.directive (.feed n)) s = { s with fmt := { s.fmt with
        activity := .draining (.feed n false), owner := .none, lapse := none, flush := none } }

/-- R46, R47, R48, R80, R83: a formatter that is READY with PTQ or a key feed as its owner's next item takes that item when it
needs no room or 12 entries of the row queue are free: the oldest entry leaves the print text queue, whose wanted flag clears
at 32 free places, or the key feed record is emptied and is carried out as an LF; and the item is carried out. -/
def Obligations.FormatterTakesItsItem : Prop :=
  ∀ s : State, s.resetting = none → s.fmt.activity = .ready →
    (∀ it rest, s.fmt.owner = .ptq → s.fmt.ptq = it :: rest →
      (s.fmt.needsRoom it = false ∨ s.head.queue.length + 12 ≤ 32) →
      let clears := s.fmt.ptqWanted && decide (rest.length ≤ 32)
      exec .formatterTakeItem s = .next (settleRow (takeItem .ptq it { s with
        fmt := { s.fmt with ptq := rest, ptqWanted := s.fmt.ptqWanted && !clears }
        link := { s.link with pendSpace := s.link.pendSpace || (clears && s.link.mask.space) } })))
    ∧ (s.fmt.owner = .key → s.fmt.keyFeed = true →
      (s.fmt.needsRoom (.char 0x0A) = false ∨ s.head.queue.length + 12 ≤ 32) →
      exec .formatterTakeItem s = .next (settleRow (takeItem .key (.char 0x0A) { s with
        fmt := { s.fmt with keyFeed := false } })))

/-- R48, R49, R50, R51, R71, R72, R155, R157, R161, R163: when each source contends, and which item is the owner's next. RX contends
with a received character bound for PRINT that the RXDATA queue has a place for, where its route names LINK. KEY contends with a
pending key feed, or with a key bound for PRINT, by its route or in place of an absent LINE, that its other sinks can accept;
STQ with a character bound for PRINT that LINE can accept, where its route names LINE, which KEY has the first claim to (log
23); PTQ with an entry. The owner's next item is the oldest of these: for RX with its substitute code when it carries a flag and
substitution is on, and for KEY a pending key feed, as an LF, before any key. While the owner is none and no drain is in
progress, the line is granted to RX, KEY, STQ or PTQ, the first of them that contends, and its lapse timer of 2 s starts. An
item whose room is not there stalls the formatter and stops both timers, and a stalled formatter takes nothing while the room is
missing. A stall ends in a take of the item, carried out with its commit, when 12 entries are free, and without a take when the
item is no longer offered; that it also ends without a take when the item needs room no longer is the model's choice (log 18).
Without a take both timers start in full. The lapse timer's end leaves the line without an owner, for the arbiter to grant at
the end of the row (log 6). The flush timer's end begins a flush, noting the column, when some open line has ink, and otherwise
changes nothing. -/
def Obligations.OwnershipAndStalls : Prop :=
  (∀ s : State,
    let present := OpenCall s ∨ s.conn.state = .test
    let place := present ∧ s.router.txQueue.length < 8
    let rx := s.router.store ≠ [] ∧ s.router.rxRoute.print = true ∧ s.router.rxRoute.line = false
      ∧ (s.router.rxRoute.link = true → s.router.rxData.length < 32)
    let linkFree := s.router.keyRoute.link = true → s.router.keyData.length < 16
    let key := s.keys.queue ≠ [] ∧ (s.router.keyRoute.print = true ∨ (s.router.keyRoute.line = true ∧ ¬ present))
      ∧ (s.router.keyRoute.line = true → present → place) ∧ linkFree
    let keyWants := s.router.keyRoute.line = true ∧ present ∧ linkFree ∧ ∃ c rest, s.keys.queue = c :: rest
      ∧ (s.router.keyRoute.print = true → s.fmt.keyFeed = false ∧ (∀ d, s.fmt.activity ≠ .draining d)
        ∧ (s.fmt.owner = .key ∨ (s.fmt.owner = .none ∧ key ∧ ¬ rx))
        ∧ (s.fmt.needsRoom (.char c.code) = true → s.head.queue.length + 12 ≤ 32))
    let stq := s.router.stq ≠ [] ∧ s.router.stqRoute.print = true ∧ s.router.stqRoute.link = false
      ∧ (s.router.stqRoute.line = true → place ∧ ¬ keyWants)
    (rxContends s = true ↔ rx) ∧ (keyContends s = true ↔ s.fmt.keyFeed = true ∨ key)
    ∧ (keyWantsPlace s = true ↔ keyWants) ∧ (stqContends s = true ↔ stq)
    ∧ (s.fmt.isDraining = true ↔ ∃ d, s.fmt.activity = .draining d)
    ∧ (s.fmt.owner = .none → nextItem s = none)
    ∧ (s.fmt.owner = .rx → (¬ rx → nextItem s = none) ∧ ∀ c rest, s.router.store = c :: rest → rx →
        nextItem s = some (.char (if (c.parityBad || c.framingBad) && s.format.substitution then s.format.substitute
          else c.code)))
    ∧ (s.fmt.owner = .key → (s.fmt.keyFeed = true → nextItem s = some (.char 0x0A))
        ∧ (s.fmt.keyFeed = false → ¬ key → nextItem s = none)
        ∧ ∀ c rest, s.fmt.keyFeed = false → s.keys.queue = c :: rest → key → nextItem s = some (.char c.code))
    ∧ (s.fmt.owner = .stq → (¬ stq → nextItem s = none)
        ∧ ∀ c rest, s.router.stq = c :: rest → stq → nextItem s = some (.char c))
    ∧ (s.fmt.owner = .ptq → nextItem s = s.fmt.ptq.head?))
  ∧ (∀ s : State,
    (s.fmt.owner = .none → s.fmt.isDraining = false → ∀ o, o ≠ .none →
      (o = if rxContends s then .rx else if keyContends s then .key else if stqContends s then .stq
        else if s.fmt.ptq ≠ [] then .ptq else .none) →
      grant s = { s with fmt := { s.fmt with owner := o, lapse := some (s.now + 2000000) } })
    ∧ ((s.fmt.owner ≠ .none ∨ s.fmt.isDraining = true) → grant s = s)
    ∧ (s.fmt.activity = .ready → ∀ it, nextItem s = some it → s.fmt.needsRoom it = true → 20 < s.head.queue.length →
      beginStall s = { s with fmt := { s.fmt with activity := .stalled, lapse := none, flush := none } })
    ∧ (s.fmt.activity = .stalled → ∀ it, nextItem s = some it → s.fmt.needsRoom it = true →
      20 < s.head.queue.length → endStall s = s)
    ∧ (s.fmt.activity = .stalled → ∀ it, nextItem s = some it → s.fmt.needsRoom it = true →
      s.head.queue.length ≤ 20 →
      (∀ rest, s.fmt.owner = .ptq → s.fmt.ptq = it :: rest →
        let clears := s.fmt.ptqWanted && decide (rest.length ≤ 32)
        endStall s = takeItem .ptq it { s with
          fmt := { s.fmt with ptq := rest, ptqWanted := s.fmt.ptqWanted && !clears }
          link := { s.link with pendSpace := s.link.pendSpace || (clears && s.link.mask.space) } })
      ∧ (s.fmt.owner = .key → s.fmt.keyFeed = true →
        endStall s = takeItem .key (.char 0x0A) { s with fmt := { s.fmt with keyFeed := false } })
      ∧ ∀ src, s.fmt.owner = ownerOf src → (src = .key → s.fmt.keyFeed = false) → endStall s = sourceTaken src s)
    ∧ (s.fmt.activity = .stalled → s.fmt.owner ≠ .none →
      (nextItem s = none ∨ ∃ it, nextItem s = some it ∧ s.fmt.needsRoom it = false) →
      endStall s = { s with fmt := { s.fmt with
        activity := .ready, lapse := some (s.now + 2000000)
        flush := if s.fmt.flushDelay = 0 then none else some (s.now + 1000 * s.fmt.flushDelay) } }))
  ∧ (∀ (s : State) (due : Micros), s.resetting = none →
    (s.fmt.lapse = some due →
      exec .lapseTimerExpiry s = .next (settleRow { s with
        now := max s.now due, fmt := { s.fmt with owner := .none, lapse := none } }))
    ∧ (s.fmt.flush = some due → (∃ l ∈ s.fmt.window, l.ink = true) →
      exec .flushTimerExpiry s = .next (settleRow { s with
        now := max s.now due
        fmt := { s.fmt with
          activity := .draining (.flush s.fmt.column), lapse := none, flush := none } }))
    ∧ (s.fmt.flush = some due → (∀ l ∈ s.fmt.window, l.ink = false) →
      exec .flushTimerExpiry s = .next (settleRow { s with
        now := max s.now due, fmt := { s.fmt with flush := none } })))

/-- R59, R60, R67: CR sets the column to the left margin; BS lowers it by 1 and stops at the left margin, in double-width mode as
well. Neither changes a cell, makes a line advance or ends ownership. HT sets the column to the first tab stop greater than the
column and not greater than the right margin, and to the right margin if there is none, as with no stops at all and with the
column at the right margin + 1. It places nothing, makes no line advance, and never reaches a stop at or left of the left margin.
Code 12h sets the mark column to the cursor column, 39 for a column of 40. Code 1Dh gives the cursor the mark column, clamped into
the margins, and the mark column the cursor's old column, 39 for 40; a second 1Dh returns the cursor to where the first found it if
that place lay within the margins. Neither is a line advance. -/
def Obligations.ColumnMoves : Prop :=
  (∀ (s : State) (o : Owner), o ≠ .none →
    let kept (c : Nat) : State := { s with fmt := { s.fmt with
      column := c, owner := o, activity := .ready, lapse := some (s.now + 2000000)
      flush := if s.fmt.flushDelay = 0 then none else some (s.now + 1000 * s.fmt.flushDelay) } }
    takeItem o (.char 0x0D) s = kept s.fmt.layout.left
    ∧ takeItem o (.char 0x08) s = kept (max s.fmt.layout.left (s.fmt.column - 1))
    ∧ (s.fmt.column = s.fmt.layout.right + 1 → s.fmt.layout.left ≤ s.fmt.layout.right →
        (takeItem o (.char 0x08) s).fmt.column = s.fmt.layout.right)
    ∧ (s.fmt.column = s.fmt.layout.left → (takeItem o (.char 0x08) s).fmt.column = s.fmt.layout.left))
  ∧ (∀ (s : State) (o : Owner), o ≠ .none → s.fmt.layout.tabs.Pairwise (· < ·) →
    ∃ c, takeItem o (.char 0x09) s = { s with fmt := { s.fmt with
        column := c, owner := o, activity := .ready, lapse := some (s.now + 2000000)
        flush := if s.fmt.flushDelay = 0 then none else some (s.now + 1000 * s.fmt.flushDelay) } }
      ∧ (∀ t ∈ s.fmt.layout.tabs, s.fmt.column < t → t ≤ s.fmt.layout.right → c ≤ t)
      ∧ ((c ∈ s.fmt.layout.tabs ∧ s.fmt.column < c ∧ c ≤ s.fmt.layout.right)
          ∨ (c = s.fmt.layout.right ∧ ∀ t ∈ s.fmt.layout.tabs, ¬ (s.fmt.column < t ∧ t ≤ s.fmt.layout.right)))
      ∧ (s.fmt.layout.tabs = [] → c = s.fmt.layout.right)
      ∧ (s.fmt.column = s.fmt.layout.right + 1 → c = s.fmt.layout.right)
      ∧ (s.fmt.layout.left ≤ s.fmt.column → s.fmt.layout.left < s.fmt.layout.right → s.fmt.layout.left < c))
  ∧ (∀ (s : State) (o : Owner), o ≠ .none → s.fmt.column ≤ 40 →
    let mark := if s.fmt.column = 40 then 39 else s.fmt.column
    let kept (c : Nat) : State := { s with fmt := { s.fmt with
      column := c, layout := { s.fmt.layout with mark := mark }
      owner := o, activity := .ready, lapse := some (s.now + 2000000)
      flush := if s.fmt.flushDelay = 0 then none else some (s.now + 1000 * s.fmt.flushDelay) } }
    takeItem o (.char 0x12) s = kept s.fmt.column
    ∧ takeItem o (.char 0x1D) s
        = kept (max s.fmt.layout.left (min s.fmt.layout.right s.fmt.layout.mark))
    ∧ (s.fmt.layout.left ≤ s.fmt.column → s.fmt.column ≤ s.fmt.layout.right → s.fmt.layout.right ≤ 39 →
        (takeItem o (.char 0x1D) (takeItem o (.char 0x1D) s)).fmt.column = s.fmt.column))

/-- R50, R56, R62, R64, R65, R66, R68, R71: what taking a character leaves. LF, NL, an FF without a form and a code that wraps
end ownership; an FF with a form begins its drain; any other item keeps the owner and restarts the lapse timer, and the flush
timer starts unless its delay is 0. A code that does not fit is preceded by an NL with wrap on, and moves to the last column
with wrap off. BEL asks for a beep of 150 ms (R151), SO and SI set the width, and the control codes without a meaning do
nothing. -/
def Obligations.CharactersAreCarriedOut : Prop :=
  ∀ (s : State) (o : Owner), o ≠ .none →
    let s0 : State := { s with fmt := { s.fmt with owner := o, activity := .ready } }
    let flush := if s.fmt.flushDelay = 0 then none else some (s.now + 1000 * s.fmt.flushDelay)
    let kept (t : State) : State := { t with fmt := { t.fmt with
      owner := o, lapse := some (s.now + 2000000), flush := flush } }
    let ended (t : State) : State := { t with fmt := { t.fmt with owner := .none, lapse := none, flush := flush } }
    takeItem o (.char 0x0A) s = ended (lineAdvance s0)
    ∧ takeItem o (.char 0x1E) s = ended (newLine s0)
    ∧ (s.fmt.formLength = 0 → takeItem o (.char 0x0C) s = ended (newLine s0))
    ∧ (0 < s.fmt.formLength → takeItem o (.char 0x0C) s = { s with fmt := { s.fmt with
        activity := .draining (.formFeed none), owner := .none, lapse := none, flush := none } })
    ∧ takeItem o (.char 0x0B) s = kept (verticalTab s0)
    ∧ takeItem o (.char 0x07) s = kept { s0 with keys := { s.keys with beeper := beepFrom s.keys.beeper s.now (s.now + 150000) } }
    ∧ takeItem o (.char 0x0E) s = kept { s0 with fmt := { s0.fmt with layout := { s.fmt.layout with double := true } } }
    ∧ takeItem o (.char 0x0F) s = kept { s0 with fmt := { s0.fmt with layout := { s.fmt.layout with double := false } } }
    ∧ (∀ c : Byte, c.toNat ≤ 0x06 ∨ c = 0x10 ∨ c = 0x11 ∨ (0x13 ≤ c.toNat ∧ c.toNat ≤ 0x1C) ∨ c = 0x1F →
      takeItem o (.char c) s = kept s0)
    ∧ ∀ c : Byte, 0x20 ≤ c.toNat →
      (s.fmt.fits = true → takeItem o (.char c) s = kept (putPrintable c s0))
      ∧ (s.fmt.fits = false → s.fmt.layout.left < s.fmt.layout.right →
        (s.fmt.layout.wrap = true → takeItem o (.char c) s = ended (putPrintable c (newLine s0)))
        ∧ (s.fmt.layout.wrap = false → takeItem o (.char c) s = kept (putPrintable c { s0 with fmt := { s0.fmt with
            column := if s.fmt.layout.double then s.fmt.layout.right - 1 else s.fmt.layout.right } })))

/-- R3, R6, R9, R61, R62, R63, R69: the four cases of a line advance, in their order; the last commits the oldest line first. NL
is a CR and then a line advance. VT moves to the next older line, or sets TOP CLAMP at the oldest. Entries join the newest end
of the row queue, and change nothing else unless the driver is IDLE, when it begins a row cycle at once: with the motor RELEASED
through ENERGIZING, and with the motor HELD, the hold timer stopped, straight with a FEED's first step start or a BURN row's
first phase start, or by waiting in SETTLING. -/
def Obligations.LineAdvanceCases : Prop :=
  (∀ s : State,
    (s.fmt.cursor.continuation = true → s.fmt.cursor.ink = false →
      lineAdvance s = { s with fmt := { s.fmt with
        window := s.fmt.window.set s.fmt.cursorLine { s.fmt.cursor with continuation := false } } })
    ∧ (¬ (s.fmt.cursor.continuation = true ∧ s.fmt.cursor.ink = false) →
      (s.fmt.cursorLine + 1 < s.fmt.window.length →
        lineAdvance s = { s with fmt := { s.fmt with cursorLine := s.fmt.cursorLine + 1 } })
      ∧ (s.fmt.window.length = s.fmt.cursorLine + 1 → s.fmt.window.length < 4 →
        lineAdvance s = { s with fmt := { s.fmt with
          window := s.fmt.window ++ [Line.fresh], cursorLine := s.fmt.cursorLine + 1 } })
      ∧ (∀ old rest, s.fmt.window = old :: rest → s.fmt.window.length = 4 → s.fmt.cursorLine = 3 →
        lineAdvance s = { appendEntries (if old.continuation then [] else rasterize s.fmt.soft old) s with
          fmt := { s.fmt with
            window := rest ++ [Line.fresh]
            formCounter := if old.continuation then s.fmt.formCounter
              else if s.fmt.formLength = 0 then min 255 (s.fmt.formCounter + 1)
              else (s.fmt.formCounter + 1) % s.fmt.formLength } }))
    ∧ newLine s = lineAdvance { s with fmt := { s.fmt with column := s.fmt.layout.left } }
    ∧ verticalTab s = (if s.fmt.cursorLine = 0 then { s with link := s.link.setLatch .topClamp }
        else { s with fmt := { s.fmt with cursorLine := s.fmt.cursorLine - 1 } }))
  ∧ (∀ (s : State) (es : List RowEntry),
    (s.head.state ≠ .idle → appendEntries es s = { s with head := { s.head with queue := s.head.queue ++ es } })
    ∧ (s.head.state = .idle → s.head.waiting = false →
      appendEntries es s = beginRow { s with head := { s.head with queue := s.head.queue ++ es } })
    ∧ (s.head.state = .idle → s.head.waiting = false → s.head.motor = .held → ∀ e rest,
        s.head.queue ++ es = e :: rest →
      let h := { s.head with queue := rest, row := some e.record, hold := none }
      (∀ n, e = .feed n → appendEntries es s = stepStart true { s with head := h })
      ∧ ∀ dots, e = .burn dots →
        let r : BurnRow := { marked := dots, hot := none, burned := [], next := .phase }
        (s.head.settle ≠ none → appendEntries es s = { s with head := { h with
          state := .settling, reasons := .none, waiting := false } })
        ∧ ∀ cfg, s.head.settle = none → s.head.config = some cfg →
          appendEntries es s = phaseStart cfg r { s with head := { h with state := .burning, reasons := .none } })
    ∧ (s.head.state = .idle → s.head.waiting = false → s.head.motor = .released → ∀ e rest,
        s.head.queue ++ es = e :: rest →
      appendEntries es s = { s with head := { s.head with
        queue := rest, row := some e.record, state := .energizing, reasons := .none, waiting := false, hold := none
        motor := .energizing, energize := some (s.now + 20000) } }))

/-- R55, R57, R58: a printable code that fits is placed in the cell at the column, or double width in that cell and the next,
with its wide mark, and the column advances by 1 or 2. A cell of another wide mark is emptied first; a code is held once, and
a fourth replaces the newest. Codes 90h to FFh are placed as 7Fh; any code but 20h sets the ink flag and clears the
continuation flag. The other cells of the line and the other lines stand. -/
def Obligations.PrintablePlacesItsCode : Prop :=
  ∀ (s : State) (c : Byte) (line : Line), 0x20 ≤ c.toNat → s.fmt.fits = true →
    s.fmt.window[s.fmt.cursorLine]? = some line → line.cells.length = 40 → s.fmt.layout.right ≤ 39 →
    let double := s.fmt.layout.double
    let code : Byte := if 0x90 ≤ c.toNat then 0x7F else c
    let width := if double then 2 else 1
    ∃ new : Line,
      putPrintable c s = { s with fmt := { s.fmt with
        window := s.fmt.window.set s.fmt.cursorLine new, column := s.fmt.column + width } }
      ∧ new.cells.length = 40
      ∧ new.ink = (line.ink || decide (c ≠ 0x20)) ∧ new.continuation = (line.continuation && decide (c = 0x20))
      ∧ (∀ k, (k < s.fmt.column ∨ s.fmt.column + width ≤ k) → new.cells[k]? = line.cells[k]?)
      ∧ ∀ k cell, k < width → line.cells[s.fmt.column + k]? = some cell →
        let wide : Wide := if double then (if k = 0 then .leftHalf else .rightHalf) else .none
        let old := if cell.wide = wide then cell.codes else []
        new.cells[s.fmt.column + k]? = some
          { wide := wide
            codes := if code ∈ old then old else if old.length < 3 then old ++ [code] else old.take 2 ++ [code] }

/-- R76, R78, R79: a cell of a line marks its dot j in a glyph row when one of its codes marks there glyph column j, or floor(j
/ 2) for a LEFT HALF, or 4 + floor(j / 2) for a RIGHT HALF; dot rows 10 and 11 carry none. Whatever the ROM font's free patterns
are (log 9), the entries of a line are its twelve dot rows in order, at least 1 and at most 11 entries; each BURN holds at least
one dot, ascending below 320, no FEED is next to another, and the last entry is a FEED. A line whose codes mark nothing is one
FEED 12. -/
def Obligations.RasterCoversTwelveRows : Prop :=
  ∀ (soft : List (List Byte)) (line : Line),
    let es := rasterize soft line
    (∀ r p, r < 10 → (p ∈ dotRow soft line r ↔ p < 320 ∧ ∃ cell code, line.cells[p / 8]? = some cell ∧ code ∈ cell.codes
        ∧ (glyphRow soft code r).getLsbD (7 - (match cell.wide with
          | .none => p % 8
          | .leftHalf => p % 8 / 2
          | .rightHalf => 4 + p % 8 / 2)) = true))
      ∧ (∀ r, 10 ≤ r → dotRow soft line r = [])
      ∧ (es.flatMap fun e => match e with
          | .burn dots => [dots]
          | .feed n => List.replicate n []) = (List.range 12).map (dotRow soft line)
      ∧ (es.map rowsIn).sum = 12 ∧ 1 ≤ es.length ∧ es.length ≤ 11
      ∧ (∀ dots, RowEntry.burn dots ∈ es → DotsOk dots)
      ∧ (∀ n, RowEntry.feed n ∈ es → 1 ≤ n)
      ∧ es.IsChain (fun a b => ¬ (isFeed a = true ∧ isFeed b = true))
      ∧ (∃ n, es.getLast? = some (.feed n) ∧ 2 ≤ n)
      ∧ ((∀ r, r < 10 → dotRow soft line r = []) → es = [.feed 12])

/-- R64, R69, R70, R72, R90: a drain commits the oldest open line when 12 entries of the row queue are free, or at once when
it carries the continuation flag. The last line of a flush leaves a fresh line that carries the flag, at the noted column, and
the drain ends; of a FEED, a fresh line at the left margin, after which its FEED entry is appended at a free place and the
drain ends; of a FORM FEED, entries of 255 rows and of the remainder up to the form top, and with the last of them the counter
becomes 0 and the drain ends. -/
def Obligations.DrainsCommitAndEnd : Prop :=
  ∀ (s : State), s.resetting = none →
    (∀ d line rest, s.fmt.activity = .draining d → d.committing = true → s.fmt.window = line :: rest →
        (line.continuation = true ∨ s.head.queue.length + 12 ≤ 32) →
      let es := if line.continuation then [] else rasterize s.fmt.soft line
      let counter := if line.continuation then s.fmt.formCounter
        else if s.fmt.formLength = 0 then min 255 (s.fmt.formCounter + 1)
        else (s.fmt.formCounter + 1) % s.fmt.formLength
      (rest ≠ [] →
        exec .drainCommit s = .next (settleRow { appendEntries es s with
          fmt := { s.fmt with window := rest, cursorLine := s.fmt.cursorLine - 1, formCounter := counter } }))
      ∧ (∀ c, rest = [] → s.fmt.cursorLine = 0 → d = .flush c →
        exec .drainCommit s = .next (settleRow { appendEntries es s with
          fmt := { s.fmt with
            window := [{ Line.fresh with continuation := true }], column := c, formCounter := counter
            activity := .ready, owner := .none, lapse := none, flush := none } }))
      ∧ (∀ n, rest = [] → s.fmt.cursorLine = 0 → d = .feed n false →
        exec .drainCommit s = .next (settleRow { appendEntries es s with
          fmt := { s.fmt with
            window := [.fresh], column := s.fmt.layout.left, formCounter := counter
            activity := .draining (.feed n true) } }))
      ∧ (rest = [] → s.fmt.cursorLine = 0 → d = .formFeed none → counter < s.fmt.formLength →
        let rows := (s.fmt.formLength - counter) * 12
        exec .drainCommit s = .next (settleRow { appendEntries es s with
          fmt := { s.fmt with
            window := [.fresh], column := s.fmt.layout.left, formCounter := counter
            activity := .draining (.formFeed (some (List.replicate (rows / 255) 255
              ++ if rows % 255 = 0 then [] else [rows % 255]))) } })))
    ∧ (∀ n more, s.fmt.activity = .draining (.formFeed (some (n :: more))) → s.head.queue.length < 32 →
      (more ≠ [] →
        exec .formFeedEntryAppend s = .next (settleRow { appendEntries [.feed n] s with
          fmt := { s.fmt with activity := .draining (.formFeed (some more)) } }))
      ∧ (more = [] →
        exec .formFeedEntryAppend s = .next (settleRow { appendEntries [.feed n] s with
          fmt := { s.fmt with
            formCounter := 0, activity := .ready, owner := .none, lapse := none, flush := none } })))
    ∧ (∀ n, s.fmt.activity = .draining (.feed n true) → s.head.queue.length < 32 →
      exec .feedEntryAppend s = .next (settleRow { appendEntries [.feed n] s with
        fmt := { s.fmt with activity := .ready, owner := .none, lapse := none, flush := none } }))


/-! ### The line and the call -/

/-- R96, R97, R106, R119: SET LINE. A field that names no setting, and 7 data bits without parity, are refused with RANGE;
outside IDLE it is refused with STATE. Else the seven settings are replaced together, 110 bit/s with one stop bit taking two
and the reply CLAMPED; the character in hand is abandoned, and a change of depth empties the receive store. SET CARRIER
refuses with RANGE a threshold set or a weak line mode that names nothing, and else replaces its four settings, the dropout
hold clamped to 200 to 2000 ms and the connect timeout to 10 to 60 s. -/
def Obligations.LineAndCarrierSettings : Prop :=
  (∀ (s : State) (dt : Micros) (speed bits par stops depth subst code : Byte),
    let p := [speed, bits, par, stops, depth, subst, code]
    let legal := speed.toNat ≤ 2 ∧ (bits = 0x07 ∨ bits = 0x08) ∧ par.toNat ≤ 4 ∧ (stops = 0x01 ∨ stops = 0x02)
      ∧ (depth = 0x10 ∨ depth = 0x20) ∧ subst.toNat ≤ 1 ∧ ¬ (par = 0x00 ∧ bits = 0x07)
    CanTake 0x11 p s →
      (¬ legal → exec (.setLine dt p) s = .next (settleRow (answered dt (.reject 0x11 .range) s)))
      ∧ (legal → s.conn.state ≠ .idle →
        exec (.setLine dt p) s = .next (settleRow (answered dt (.reject 0x11 .state) s)))
      ∧ (legal → s.conn.state = .idle → ∀ (sp : Speed) (parity : Parity),
          [Speed.b110, .b150, .b300][speed.toNat]? = some sp →
          [Parity.none, .even, .odd, .mark, .space][par.toNat]? = some parity →
        exec (.setLine dt p) s = .next (settleRow { answered dt (doneReply 0x11 (speed = 0x00 ∧ stops = 0x01)) s with
          format := { speed := sp, eightBits := decide (bits = 0x08), parity := parity
                      twoStops := decide (stops = 0x02 ∨ speed = 0x00), deep := decide (depth = 0x20)
                      substitution := decide (subst = 0x01), substitute := code }
          signal := { s.signal with
            deframer := match s.signal.deframer with
              | .assembling _ _ _ | .breakWatch _ _ _ => if s.signal.lineMark then .waitStart else .waitMark
              | d => d }
          router := { s.router with
            store := if decide (depth = 0x20) = s.format.deep then s.router.store else [] } })))
  ∧ (∀ (s : State) (dt : Micros) (set weak h0 h1 limit : Byte),
    let p := [set, weak, h0, h1, limit]
    let hold := h0.toNat + 256 * h1.toNat
    CanTake 0x12 p s →
      ((1 < set.toNat ∨ 1 < weak.toNat) →
        exec (.setCarrier dt p) s = .next (settleRow (answered dt (.reject 0x12 .range) s)))
      ∧ (set.toNat ≤ 1 → weak.toNat ≤ 1 →
        exec (.setCarrier dt p) s = .next (settleRow
          { answered dt (doneReply 0x12 (hold < 200 ∨ 2000 < hold ∨ limit.toNat < 10 ∨ 60 < limit.toNat)) s with
            monitor := { s.monitor with
              noisy := decide (set = 0x01), weak := decide (weak = 0x01)
              dropoutHold := max 200 (min 2000 hold), connectTimeout := max 10 (min 60 limit.toNat) } })))

/-- R110, R118, R120, R126, R128, R131, R132, R133: CONNECT, DISCONNECT, BREAK and SET LOOP by the connect state. CONNECT in
IDLE sets the role, restarts the Carrier Monitor and starts the connect timer; DISCONNECT turns an open call to CLEARING with
its timer of 250 ms, ends a call not yet open, and else changes nothing; BREAK in an open call starts the break timer of 250
ms (log 14). LOCAL TONE in IDLE sets the role to ORIGINATE, restarts the monitor, spoils the character in hand and abandons
the half-period; LOCAL CHAR in IDLE idles the monitor; NORMAL in TEST returns to IDLE; NORMAL and REMOTE ECHO in an open call
set the mode alone. Elsewhere each but DISCONNECT is refused with STATE. A mark still owed to an expired break runs on through
every change (log 25). -/
def Obligations.CallCommandsByState : Prop :=
  (∀ (s : State) (dt : Micros),
    let t := s.now + dt
    let c := s.conn
    let stopped := { s.signal with breakTimer := none }
    (∀ b : Byte, CanTake 0x13 [b] s →
      (1 < b.toNat → exec (.connect dt [b]) s = .next (settleRow (answered dt (.reject 0x13 .range) s)))
      ∧ (b.toNat ≤ 1 → c.state ≠ .idle →
        exec (.connect dt [b]) s = .next (settleRow (answered dt (.reject 0x13 .state) s)))
      ∧ (b.toNat ≤ 1 → c.state = .idle →
        exec (.connect dt [b]) s = .next (settleRow { answered dt (.done 0x13) s with
          conn := { state := if b = 0x00 then .waitAnswer else .answering, loop := c.loop
                    role := if b = 0x00 then .originate else .answer
                    connectTimer := some (t + 1000000 * s.monitor.connectTimeout)
                    settleTimer := none, dropoutTimer := none, clearingTimer := none }
          monitor := { s.monitor with total := 0, inBand := 0, window := some (t + 10000), present := false
                                      qualifying := 0, badRun := 0, lowRun := 0 }
          signal := stopped
          link := told (answered dt (.done 0x13) s).link })))
    ∧ (CanTake 0x14 [] s →
      ((c.state = .online ∨ c.state = .fade) →
        exec (.disconnect dt []) s = .next (settleRow { answered dt (.done 0x14) s with
          conn := { state := .clearing, loop := .normal, role := c.role, connectTimer := none, settleTimer := none
                    dropoutTimer := none, clearingTimer := some (t + 250000) }
          signal := { stopped with
            deframer := if c.state = .online then s.signal.deframer.spoil else s.signal.deframer }
          link := told (answered dt (.done 0x14) s).link }))
      ∧ ((c.state = .waitAnswer ∨ c.state = .answering ∨ c.state = .settle) →
        exec (.disconnect dt []) s = .next (settleRow (idled (answered dt (.done 0x14) s))))
      ∧ ((c.state = .clearing ∨ c.state = .idle ∨ c.state = .test) →
        exec (.disconnect dt []) s = .next (settleRow (answered dt (.done 0x14) s))))
    ∧ (CanTake 0x15 [] s →
      (OpenCall s →
        exec (.sendBreak dt []) s = .next (settleRow { answered dt (.done 0x15) s with
          signal := { s.signal with breakTimer := some (t + 250000), markTimer := none } }))
      ∧ (¬ OpenCall s →
        exec (.sendBreak dt []) s = .next (settleRow (answered dt (.reject 0x15 .state) s)))))
  ∧ (∀ (s : State) (dt : Micros) (b : Byte), CanTake 0x16 [b] s →
    let t := s.now + dt
    let d := answered dt (.done 0x16) s
    let runs0 := { s.monitor with total := 0, inBand := 0, present := false, qualifying := 0, badRun := 0, lowRun := 0 }
    let test : Conn := { s.conn with state := .test, connectTimer := none, settleTimer := none, dropoutTimer := none
                                     clearingTimer := none }
    (3 < b.toNat → exec (.setLoop dt [b]) s = .next (settleRow (answered dt (.reject 0x16 .range) s)))
    ∧ (b.toNat ≤ 3 →
        (b = 0x00 ∧ s.conn.state ≠ .test ∧ ¬ OpenCall s) ∨ ((b = 0x01 ∨ b = 0x02) ∧ s.conn.state ≠ .idle)
          ∨ (b = 0x03 ∧ ¬ OpenCall s) →
      exec (.setLoop dt [b]) s = .next (settleRow (answered dt (.reject 0x16 .state) s)))
    ∧ (b = 0x01 → s.conn.state = .idle →
      exec (.setLoop dt [b]) s = .next (settleRow { d with
        conn := { test with loop := .localTone, role := .originate }
        monitor := { runs0 with window := some (t + 10000) }
        signal := { s.signal with deframer := s.signal.deframer.spoil, crossing := none, breakTimer := none }
        link := told d.link }))
    ∧ (b = 0x02 → s.conn.state = .idle →
      exec (.setLoop dt [b]) s = .next (settleRow { d with
        conn := { test with loop := .localChar }
        monitor := { runs0 with window := none }
        signal := { s.signal with breakTimer := none }
        link := told d.link }))
    ∧ (b = 0x00 → s.conn.state = .test → exec (.setLoop dt [b]) s = .next (settleRow (idled d)))
    ∧ (b = 0x00 ∨ b = 0x03 → OpenCall s →
      exec (.setLoop dt [b]) s = .next (settleRow { d with
        conn := { s.conn with loop := if b = 0x00 then .normal else .remoteEcho } })))

/-- R93, R94, R98, R99, R100, R113, R132: a zero crossing of the Discriminator's input: of MIC at the moment its sender gives, or
in TEST with LOCAL TONE the next crossing of the part's own wave, at that wave's moment (log 17), while a SILENT wave has none.
The first of an input only begins a half-period (log 12). Any other ends one, measured in whole µs, truncated, classified for the
listen channel and counted in the monitor's window, and it sets the line state unless it is OUT; a change of line state ends WAIT
MARK or is a start edge. The part's own clean mark gives half-periods of 446 µs and its own clean space 543 µs. -/
def Obligations.HalfPeriodsAreJudged : Prop :=
  (∀ (s : State) (dt : Micros), s.resetting = none →
    let own := s.conn.state = .test ∧ s.conn.loop = .localTone
    let part := 15739360
    (own → s.tone.output = .silent → exec (.halfPeriodEnd dt) s = .next (settleRow s))
    ∧ ∀ now at0, (¬ own ∧ now = s.now + dt ∧ at0 = part * now)
        ∨ (own ∧ s.tone.output ≠ .silent ∧ FirstCrossing s.tone s.signal.crossing at0
            ∧ now = max s.now ((at0 + (part - 1)) / part)) →
      (s.signal.crossing = none →
        exec (.halfPeriodEnd dt) s = .next (settleRow { s with
          now := now, signal := { s.signal with crossing := some at0 } }))
      ∧ ∀ t, s.signal.crossing = some t →
        let h := (at0 - t) / part
        let low := listensLow s
        let mark := decide ((low ∧ 380 ≤ h ∧ h < 495) ∨ (¬ low ∧ 205 ≤ h ∧ h < 253))
        let space := decide ((low ∧ 495 ≤ h ∧ h ≤ 620) ∨ (¬ low ∧ 253 ≤ h ∧ h ≤ 300))
        let line := mark || (!space && s.signal.lineMark)
        let running := s.monitor.window.isSome
        exec (.halfPeriodEnd dt) s = .next (settleRow { s with
          now := now
          monitor := { s.monitor with
            total := if running then s.monitor.total + 1 else s.monitor.total
            inBand := if running && (mark || space) then s.monitor.inBand + 1 else s.monitor.inBand }
          signal := { s.signal with
            crossing := some at0
            lineMark := line
            deframer := match s.signal.deframer with
              | .waitMark => if !s.signal.lineMark && line then .waitStart else .waitMark
              | .waitStart => if s.signal.lineMark && !line then .assembling now [] false else .waitStart
              | d => d } }))
  ∧ ∀ (g : ToneGen) (last next : Nat), WaveCrosses g last → FirstCrossing g (some last) next → g.channel = .low →
    (g.output = .mark → (next - last) / 15739360 = 446) ∧ (g.output = .space → (next - last) / 15739360 = 543)

/-- R97, R100 to R105: the Deframer's moments. A centre before the last keeps the line state as the cell, but MARK at the
start cell is a false start. At the last centre the character is finished, with the code of its data cells and its two flags,
and is received or muted; with a bad stop cell and no data bit 1 it is held for a break watch, which ends in the character 00h
when the line state is MARK again (log 13), or was so already when it was held (log 24), or after two frame times in a break,
which sets BREAK SEEN unless it is muted. -/
def Obligations.CharactersAreFinished : Prop :=
  ∀ (s : State) (edge : Micros) (cells : List Bool) (spoiled bad : Bool), s.resetting = none →
    let f := s.format
    let n := cellTotal f
    let data := (cellCounts f).1
    let all := cells ++ [s.signal.lineMark]
    let t := max s.now (edge + (cellTimes f.speed).2 + cells.length * (cellTimes f.speed).1)
    let seek : Deframer := if s.signal.lineMark then .waitStart else .waitMark
    let letGo (d : Deframer) : State := { s with now := t, signal := { s.signal with deframer := d } }
    (s.signal.deframer = .assembling edge cells spoiled → cells.length + 1 < n →
      exec .cellCentre s = .next (settleRow (letGo
        (if cells = [] ∧ s.signal.lineMark = true then .waitStart else .assembling edge all spoiled))))
    ∧ (s.signal.deframer = .assembling edge cells spoiled → cells.length + 1 = n →
      let bits := (all.drop 1).take data
      let ones := ((all.drop 1).take (data + (cellCounts f).2.1)).count true
      let stops := (all.drop 1).drop (data + (cellCounts f).2.1)
      ∀ c : RxChar, (∀ i, i < 8 → c.code.getLsbD i = bits.getD i false) →
        c.parityBad = (match f.parity with
          | .none => false
          | .even => decide (ones % 2 = 1)
          | .odd => decide (ones % 2 = 0)
          | .mark => !all.getD (1 + data) false
          | .space => all.getD (1 + data) false) →
        c.framingBad = decide (false ∈ stops) →
        ((c.framingBad = false ∨ true ∈ bits) →
          exec .characterFinished s = .next (settleRow (finished c spoiled (letGo seek))))
        ∧ (c.framingBad = true → true ∉ bits →
          exec .characterFinished s = .next (settleRow (letGo (.breakWatch edge c.parityBad spoiled)))))
    ∧ (s.signal.deframer = .breakWatch edge bad spoiled → s.signal.lineMark = true →
      exec .characterFinished s = .next (settleRow (finished { code := 0, parityBad := bad, framingBad := true } spoiled
        { s with signal := { s.signal with deframer := .waitStart } })))
    ∧ (s.signal.deframer = .breakWatch edge bad spoiled → s.signal.lineMark = false →
      let past : State := { s with
        now := max s.now (edge + 2 * n * (cellTimes f.speed).1)
        signal := { s.signal with deframer := .waitMark } }
      exec .breakWatchEnd s = .next (settleRow
        (if !spoiled && unmuted s then { past with link := past.link.setLatch .breakSeen }
         else { past with signal := { past.signal with muted := min (past.signal.muted + 1) 65535 } })))

/-- R97, R107, R108, R110, R111: the Framer. A free Framer that may take takes the flow slot's code, else the oldest character
of the transmit queue unless remote held is set. Its cells follow one another by one bit time; at the end of the last it is
free, and in TEST with LOCAL CHAR the bits sent are handed back as a received character. A break's end is followed by a mark
of one bit time. -/
def Obligations.FramerSendsCells : Prop :=
  ∀ (s : State) (due : Micros), s.resetting = none →
    let bit := (cellTimes s.format.speed).1
    let begun (code : Byte) : Signal := { s.signal with framer := some { code := code, start := s.now, cell := 0 } }
    (s.signal.framer = none → (OpenCall s ∨ s.conn.state = .test) → s.signal.breakTimer = none →
        s.signal.markTimer = none →
      (∀ f, s.router.slot = some f →
        exec .framerTake s = .next (settleRow { s with
          signal := begun f.code, router := { s.router with slot := none } }))
      ∧ (∀ c rest, s.router.slot = none → s.router.txQueue = c :: rest → s.router.remoteHeld = false →
        exec .framerTake s = .next (settleRow { s with
          signal := begun c, router := { s.router with txQueue := rest } }))
      ∧ (s.router.slot = none → s.router.remoteHeld = true → exec .framerTake s = .next (settleRow s)))
    ∧ (∀ c, s.signal.framer = some c →
      let t := max s.now (c.start + (c.cell + 1) * bit)
      (c.cell + 1 < cellTotal s.format →
        exec .cellBoundary s = .next (settleRow { s with
          now := t, signal := { s.signal with framer := some { c with cell := c.cell + 1 } } }))
      ∧ (c.cell + 1 = cellTotal s.format → ¬ (s.conn.state = .test ∧ s.conn.loop = .localChar) →
        exec .framerCharacterEnd s = .next (settleRow { s with
          now := t, signal := { s.signal with framer := none } }))
      ∧ (c.cell + 1 = cellTotal s.format → s.conn.state = .test → s.conn.loop = .localChar →
        exec .framerCharacterEnd s = .next (settleRow (arrive
          { code := if s.format.eightBits then c.code else c.code &&& 0x7F, parityBad := false, framingBad := false }
          { s with
            now := t
            signal := { s.signal with framer := none, received := min (s.signal.received + 1) 65535 } }))))
    ∧ (s.signal.breakTimer = some due →
      exec .breakTimerExpiry s = .next (settleRow { s with
        now := max s.now due
        signal := { s.signal with breakTimer := none, markTimer := some (max s.now due + bit) } }))
    ∧ (s.signal.markTimer = some due →
      exec .breakMarkEnd s = .next (settleRow { s with
        now := max s.now due, signal := { s.signal with markTimer := none } }))

/-- R100 to R105, R108, R111: a character framed by the Framer is read back by the Deframer of the same format. When the line
state at each centre is the Framer's cell, the character finishes half a bit into its last stop cell with the code that was
sent, both flags clear, and the Deframer waits for the next start. -/
def Obligations.FramedCharacterReadsBack : Prop :=
  ∀ (s : State) (edge : Micros) (spoiled : Bool) (code : Byte),
    s.signal.deframer = .assembling edge [] spoiled →
      (framedCells s.format code).length = cellTotal s.format
      ∧ heard (framedCells s.format code) s
        = finished { code := if s.format.eightBits then code else code &&& 0x7F, parityBad := false, framingBad := false }
            spoiled { s with
              now := max s.now
                (edge + (cellTimes s.format.speed).2 + (cellTotal s.format - 1) * (cellTimes s.format.speed).1)
              signal := { s.signal with lineMark := true, deframer := .waitStart } }

/-- R94, R95: the Tone Generator at the end of a row. An output that its causes leave as it was changes nothing. From SILENT the
wave begins at phase 0 on the role's transmit channel; that the phase is 0 also while the output is SILENT, where there is no wave,
is the model's choice (log 8). Between MARK and SPACE the channel stands and the phase, in millionths of a cycle, is carried over.
SPK carries the output's tone, and rests while the output is SILENT and throughout TEST with LOCAL TONE. -/
def Obligations.TonesFollowTheirCauses : Prop :=
  ∀ s : State,
    let cell : Tone := match s.signal.framer with
      | some c => if (framedCells s.format c.code).getD c.cell true then .mark else .space
      | none => if s.conn.state = .clearing ∨ s.signal.breakTimer.isSome then .space else .mark
    let out : Tone := match s.conn.state with
      | .idle | .waitAnswer => .silent
      | .answering | .settle => .mark
      | .online | .fade | .clearing => cell
      | .test => if s.conn.loop = .localTone then cell else .silent
    let hertz : Nat := match s.tone.channel, s.tone.output with
      | _, .silent => 0
      | .low, .mark => 1120
      | .low, .space => 920
      | .high, .mark => 2080
      | .high, .space => 1880
    (s.tone.output = out → settleTone s = s)
    ∧ (s.tone.output ≠ out → out = .silent →
      settleTone s = { s with tone := { output := .silent, channel := s.tone.channel, phase := 0, since := s.now } })
    ∧ (s.tone.output = .silent → out ≠ .silent →
      settleTone s = { s with tone :=
        { output := out, channel := if s.conn.role = .answer then .high else .low, phase := 0, since := s.now } })
    ∧ (s.tone.output ≠ out → s.tone.output ≠ .silent → out ≠ .silent →
      settleTone s = { s with tone :=
        { output := out, channel := s.tone.channel
          phase := (s.tone.phase + hertz * (s.now - s.tone.since)) % 1000000, since := s.now } })
    ∧ (s.conn.state = .test → s.conn.loop = .localTone → spk s = .silent)
    ∧ ((s.conn.state ≠ .test ∨ s.conn.loop ≠ .localTone) → spk s = s.tone.output)

/-- R113 to R118: the end of a window. The window is judged good or bad and the level state is judged; the next window begins.
While the carrier is ABSENT the qualifying run goes up to the figure that makes it PRESENT; while it is PRESENT the bad run
and the low run go up to the 6 that makes it ABSENT. A transition is handed to the Connection Controller. -/
def Obligations.WindowsAreJudged : Prop :=
  ∀ (s : State) (due : Micros), s.resetting = none → s.monitor.window = some due →
    let t := max s.now due
    let good := decide (s.monitor.total * 3 ≤ s.monitor.inBand * 4
      ∧ (if listensLow s then 14 else 30) ≤ s.monitor.total)
    let code := if s.supply.level.valid then s.supply.level.code.toNat else 0
    let high := if (if s.monitor.noisy then 64 else 40) ≤ code then true
      else if code < (if s.monitor.noisy then 48 else 28) then false else s.monitor.levelHigh
    let ignored := decide (s.monitor.weak = true ∨ (s.conn.state = .test ∧ s.conn.loop = .localTone))
    let m := { s.monitor with total := 0, inBand := 0, window := some (t + 10000), levelHigh := high }
    let during (m : Monitor) : State := { s with now := t, monitor := m }
    let run := if good && (high || ignored) then min (s.monitor.qualifying + 1) 99 else 0
    let bad := if good then 0 else min (s.monitor.badRun + 1) 99
    let low := if high then 0 else min (s.monitor.lowRun + 1) 99
    let needed := if s.monitor.weak then 30 else 15
    (s.monitor.present = false → run < needed →
      exec .carrierWindowEnd s = .next (settleRow (during { m with qualifying := run })))
    ∧ (s.monitor.present = false → needed ≤ run →
      exec .carrierWindowEnd s = .next (settleRow (onPresent
        (during { m with present := true, qualifying := 0, badRun := 0, lowRun := 0 }))))
    ∧ (s.monitor.present = true → bad < 6 → (low < 6 ∨ ignored = true) →
      exec .carrierWindowEnd s = .next (settleRow (during { m with badRun := bad, lowRun := low })))
    ∧ (s.monitor.present = true → (6 ≤ bad ∨ (6 ≤ low ∧ ignored = false)) →
      exec .carrierWindowEnd s = .next (settleRow (onAbsent
        (during { m with present := false, qualifying := 0, badRun := 0, lowRun := 0 }))))

/-- R121 to R125, R127, R129, R130, R170: the moves of the connect state on transitions and on the four timers. Each move is
told to the Link Port; entering ONLINE or FADE judges local hold; entering SETTLE starts 400 ms and entering FADE the dropout
hold; ONLINE turned to FADE spoils the character in hand. CONNECT FAILED, CARRIER FADED and CARRIER DROPPED set with their
moves. A mark still owed to an expired break runs on through every move (log 25). A transition that the state does not use changes
nothing. -/
def Obligations.CallMoves : Prop :=
  ∀ (s : State) (due : Micros),
    let toState (st : ConnState) (settle dropout : Timer) (s : State) : State := { s with
      conn := { s.conn with state := st, connectTimer := none, settleTimer := settle, dropoutTimer := dropout
                            clearingTimer := none }
      link := told s.link }
    let online (s : State) : State := judgeHold (toState .online none none s)
    let fade (s : State) : State := judgeHold (toState .fade none (some (s.now + 1000 * s.monitor.dropoutHold)) s)
    let latch (l : Latch) (s : State) : State := { s with link := s.link.setLatch l }
    let late : State := { s with now := max s.now due }
    (s.conn.state = .waitAnswer →
      onPresent s = { toState .settle (some (s.now + 400000)) none s with
        signal := { s.signal with breakTimer := none } })
    ∧ (s.conn.state = .answering → onPresent s = online s)
    ∧ (s.conn.state = .fade → onPresent s = latch .carrierFaded (online s))
    ∧ (s.conn.state ∉ [.waitAnswer, .answering, .fade] → onPresent s = s)
    ∧ (s.conn.state = .online →
      onAbsent s = fade { s with signal := { s.signal with deframer := s.signal.deframer.spoil } })
    ∧ (s.conn.state ≠ .online → onAbsent s = s)
    ∧ (s.resetting = none →
      (s.conn.connectTimer = some due →
        exec .connectTimerExpiry s = .next (settleRow (latch .connectFailed (idled late))))
      ∧ (s.conn.settleTimer = some due → s.conn.state = .settle →
        exec .settleTimerExpiry s = .next (settleRow (if s.monitor.present then online late else fade late)))
      ∧ (s.conn.dropoutTimer = some due →
        exec .dropoutTimerExpiry s = .next (settleRow (latch .carrierDropped (idled late))))
      ∧ (s.conn.clearingTimer = some due →
        exec .clearingTimerExpiry s = .next (settleRow (idled late))))


/-! ### The Traffic Router -/

/-- R156, R167, R168, R172: the three commands of the Router. SET ROUTES with a sink a source may not have is refused with
RANGE, and else replaces the three sets. SET FLOW replaces its settings, the timeout clamped to 5 to 120 s; the switch turned
on judges local hold, and turned off it ends HOLD SENT, with a resume that carries the new code (log 10), and remote held.
CLEAR QUEUE empties the selected queue. -/
def Obligations.RouterCommands : Prop :=
  ∀ (s : State) (dt : Micros),
    (∀ rx key stq : Byte, CanTake 0x1B [rx, key, stq] s →
      let legal := rx.toNat ∈ [0, 2, 4, 6] ∧ key.toNat < 8 ∧ stq.toNat < 4
      let d := answered dt (.done 0x1B) s
      let named (b : Byte) : SinkSet := { line := b.getLsbD 0, print := b.getLsbD 1, link := b.getLsbD 2 }
      (¬ legal → exec (.setRoutes dt [rx, key, stq]) s = .next (settleRow (answered dt (.reject 0x1B .range) s)))
      ∧ (legal → exec (.setRoutes dt [rx, key, stq]) s = .next (settleRow { d with
          router := { s.router with rxRoute := named rx, keyRoute := named key, stqRoute := named stq } })))
    ∧ (∀ flow hold resume limit : Byte, CanTake 0x1C [flow, hold, resume, limit] s →
      let legal := flow.toNat ≤ 1 ∧ hold ≠ resume
      let n := limit.toNat
      let d := answered dt (doneReply 0x1C ((0 < n ∧ n < 5) ∨ 120 < n)) s
      let set := { s.router with
        holdCode := hold, resumeCode := resume, holdTimeout := if n = 0 then 0 else max 5 (min 120 n) }
      (¬ legal →
        exec (.setFlow dt [flow, hold, resume, limit]) s = .next (settleRow (answered dt (.reject 0x1C .range) s)))
      ∧ (legal → decide (flow = 0x01) = s.router.flowOn →
        exec (.setFlow dt [flow, hold, resume, limit]) s = .next (settleRow { d with router := set }))
      ∧ (legal → flow = 0x01 → s.router.flowOn = false →
        exec (.setFlow dt [flow, hold, resume, limit]) s
          = .next (settleRow (judgeHold { d with router := { set with flowOn := true } })))
      ∧ (legal → flow = 0x00 → s.router.flowOn = true → SlotAgrees s →
        exec (.setFlow dt [flow, hold, resume, limit]) s = .next (settleRow { d with
          link := if s.router.holdSent || s.router.remoteHeld then told d.link else d.link
          router := { set with
            flowOn := false, holdSent := false, remoteHeld := false, remoteTimer := none
            slot := if s.router.holdSent then
                (if s.router.slot.isSome then none else some { kind := .resume, code := resume })
              else s.router.slot } })))
    ∧ ∀ b : Byte, CanTake 0x1D [b] s →
      let d := answered dt (.done 0x1D) s
      let space (wanted : Bool) : LinkPort := { d.link with pendSpace := d.link.pendSpace || (wanted && d.link.mask.space) }
      (2 < b.toNat → exec (.clearQueue dt [b]) s = .next (settleRow (answered dt (.reject 0x1D .range) s)))
      ∧ (b = 0x00 → exec (.clearQueue dt [b]) s = .next (settleRow { d with
          router := { s.router with stq := [], stqWanted := false }, link := space s.router.stqWanted }))
      ∧ (b = 0x01 → exec (.clearQueue dt [b]) s = .next (settleRow { d with
          fmt := { s.fmt with ptq := [], ptqWanted := false }, link := space s.fmt.ptqWanted }))
      ∧ (b = 0x02 → exec (.clearQueue dt [b]) s = .next (settleRow { d with keys := { s.keys with queue := [] } }))

/-- R155, R157, R158, R161, R163, R165, R166: which sinks a source is bound for, when it is ready, and how it is taken. LINE
is present in ONLINE, FADE and TEST; while it is absent KEY's LINE is replaced by PRINT and an STQ set with LINE is not taken.
A source is ready when it holds a character, has a sink, and every sink accepts it; a place of the transmit queue goes to KEY
before STQ (log 23); PRINT accepts from the owner, or from the source the free line is granted to, what has its room and finds
no drain, and from KEY while no key feed is pending. A ready source is taken: its oldest character leaves it and is delivered
to every sink of its set at once and to no other. A received character goes as its own code, or as the substitute code when it
carries a flag and substitution is on; its leaving judges local hold. The send text queue's wanted flag clears at 32 free
places. A source that is not ready is left as it stands. -/
def Obligations.SourcesAreTaken : Prop :=
  (∀ s : State,
    let present := OpenCall s ∨ s.conn.state = .test
    let place := present ∧ s.router.txQueue.length < 8
    (present → ∀ src, sinksOf src s = s.router.route src)
    ∧ (¬ present → sinksOf .rx s = s.router.rxRoute
      ∧ sinksOf .key s = (if s.router.keyRoute.line then { s.router.keyRoute with line := false, print := true }
          else s.router.keyRoute)
      ∧ sinksOf .stq s = (if s.router.stqRoute.line then { line := false, print := false, link := false }
          else s.router.stqRoute))
    ∧ (∀ src c, headCode src s = some c → (printAccepts src s = true ↔
        s.fmt.isDraining = false
          ∧ (s.fmt.owner = ownerOf src ∨ (s.fmt.owner = .none ∧ grantee s = ownerOf src))
          ∧ (s.fmt.needsRoom (.char c) = true → s.head.queue.length + 12 ≤ 32)
          ∧ (src = .key → s.fmt.keyFeed = false)))
    ∧ (ready .rx s = true ↔ s.router.store ≠ []
        ∧ (sinksOf .rx s).any = true ∧ (sinksOf .rx s).line = false
        ∧ ((sinksOf .rx s).print = true → printAccepts .rx s = true)
        ∧ ((sinksOf .rx s).link = true → s.router.rxData.length < 32))
    ∧ (ready .key s = true ↔ s.keys.queue ≠ []
        ∧ (sinksOf .key s).any = true ∧ ((sinksOf .key s).line = true → place)
        ∧ ((sinksOf .key s).print = true → printAccepts .key s = true)
        ∧ ((sinksOf .key s).link = true → s.router.keyData.length < 16))
    ∧ (ready .stq s = true ↔ s.router.stq ≠ []
        ∧ (sinksOf .stq s).any = true ∧ ((sinksOf .stq s).line = true → place ∧ keyWantsPlace s = false)
        ∧ ((sinksOf .stq s).print = true → printAccepts .stq s = true)
        ∧ (sinksOf .stq s).link = false))
  ∧ (∀ (s : State) (src : Source), s.resetting = none →
    (ready src s = true → exec (.routerTake src) s = .next (settleRow (sourceTaken src s)))
    ∧ (ready src s = false → exec (.routerTake src) s = .next (settleRow s)))

/-- R159, R160, R163, R169: a received character. While flow is on, an unflagged hold or resume code is consumed: it sets or
clears remote held, and a change is told; with the timeout 0 a hold code leaves no timer running (log 26). Any other is counted
by its flags, with RX ERROR, and joins the store, with its echo copy under REMOTE ECHO, or is dropped as an overrun. The expiry
of the remote hold timer clears remote held and sets HOLD EXPIRED. -/
def Obligations.ArrivalsAreJudged : Prop :=
  ∀ (s : State) (c : RxChar) (due : Micros),
    let flow := s.router.flowOn = true ∧ c.parityBad = false ∧ c.framingBad = false
    let flagged := c.parityBad || c.framingBad
    let copy := if flagged && s.format.substitution then s.format.substitute else c.code
    let echo := decide (s.conn.loop = .remoteEcho)
    let room := decide (s.router.txQueue.length < 8)
    let up (b : Bool) (n : Nat) : Nat := if b then min (n + 1) 65535 else n
    let counted := { s.router with
      parityErrors := up c.parityBad s.router.parityErrors, framingErrors := up c.framingBad s.router.framingErrors }
    let link := if flagged then s.link.setLatch .rxError else s.link
    (flow → c.code = s.router.holdCode →
      arrive c s = { s with
        link := if s.router.remoteHeld then s.link else told s.link
        router := { s.router with
          remoteHeld := true
          remoteTimer := if s.router.holdTimeout = 0 then none else some (s.now + 1000000 * s.router.holdTimeout) } })
    ∧ (flow → c.code ≠ s.router.holdCode → c.code = s.router.resumeCode →
      arrive c s = { s with
        link := if s.router.remoteHeld then told s.link else s.link
        router := { s.router with remoteHeld := false, remoteTimer := none } })
    ∧ (¬ (flow ∧ (c.code = s.router.holdCode ∨ c.code = s.router.resumeCode)) →
      (s.router.store.length < (if s.format.deep then 32 else 16) →
        arrive c s = judgeHold { s with
          link := link
          router := { counted with
            store := s.router.store ++ [c]
            txQueue := if echo && room then s.router.txQueue ++ [copy] else s.router.txQueue
            echoDrops := up (echo && !room) s.router.echoDrops } })
      ∧ ((if s.format.deep then 32 else 16) ≤ s.router.store.length →
        arrive c s = { s with
          link := link.setLatch .rxOverrun
          router := { counted with overruns := up true s.router.overruns } }))
    ∧ (s.resetting = none → s.router.remoteTimer = some due →
      exec .remoteHoldTimerExpiry s = .next (settleRow { s with
        now := max s.now due
        link := (if s.router.remoteHeld then told s.link else s.link).setLatch .holdExpired
        router := { s.router with remoteHeld := false, remoteTimer := none } }))

/-- R170, R171, R173: a judgement of local hold, made while flow is on and the call is open. Wanted, at the high mark or with
operator pause on, CLEAR becomes HOLD SENT: an unsent resume is cancelled, or a hold is placed. Unwanted, at the low mark with
pause off, HOLD SENT becomes CLEAR: an unsent hold is cancelled, or a resume is placed. Each change is told. Otherwise nothing
changes. -/
def Obligations.LocalHoldIsJudged : Prop :=
  ∀ s : State, SlotAgrees s →
    let judged := s.router.flowOn = true ∧ OpenCall s
    let fill := s.router.store.length
    let wanted := (if s.format.deep then 24 else 10) ≤ fill ∨ s.router.pause = true
    let unwanted := fill ≤ (if s.format.deep then 8 else 4) ∧ s.router.pause = false
    (judged → wanted → s.router.holdSent = false →
      judgeHold s = { s with
        link := told s.link
        router := { s.router with
          holdSent := true
          slot := if s.router.slot.isSome then none else some { kind := .hold, code := s.router.holdCode } } })
    ∧ (judged → unwanted → s.router.holdSent = true →
      judgeHold s = { s with
        link := told s.link
        router := { s.router with
          holdSent := false
          slot := if s.router.slot.isSome then none else some { kind := .resume, code := s.router.resumeCode } } })
    ∧ (¬ (judged ∧ wanted ∧ s.router.holdSent = false) → ¬ (judged ∧ unwanted ∧ s.router.holdSent = true) →
      judgeHold s = s)
    ∧ togglePause s = judgeHold { s with router := { s.router with pause := !s.router.pause } }


/-! ### The keyboard -/

/-- R147, R149, R151, R152: SET KEYS replaces its settings, the three numbers clamped; a rollover mode other than TWO or SIX
is refused with RANGE. LOAD KEYMAP with a layer, a position or an entry that names nothing is refused with RANGE; else its
entries replace those of the layer from the first position onward, and no other. The repeat timer's end offers the code to
repeat, with the repeated flag, while the key queue holds fewer than 4, and either way restarts the timer for 1000 / rate ms,
rounded down. At its end time the beeper becomes silent; a beep lasts 150 ms from its request whatever went before. While it
sounds, BEEP turns every 250 µs from the moment it changed from silent to sounding, and a beep that finds it sounding does not
break the wave; that the first half-cycle is the one away from the steady level is the model's choice (log 27). -/
def Obligations.KeyCommandsAndTimers : Prop :=
  (∀ (s : State) (dt : Micros),
    (∀ count mode d0 d1 rate : Byte, CanTake 0x18 [count, mode, d0, d1, rate] s →
      let p := [count, mode, d0, d1, rate]
      let delay := d0.toNat + 256 * d1.toNat
      (1 < mode.toNat → exec (.setKeys dt p) s = .next (settleRow (answered dt (.reject 0x18 .range) s)))
      ∧ (mode.toNat ≤ 1 →
        exec (.setKeys dt p) s = .next (settleRow
          { answered dt (doneReply 0x18 (count.toNat < 2 ∨ 8 < count.toNat ∨ delay < 250 ∨ 1000 < delay
              ∨ rate.toNat < 5 ∨ 20 < rate.toNat)) s with
            keys := { s.keys with
              debounce := max 2 (min 8 count.toNat), rolloverSix := decide (mode = 0x01)
              repeatDelay := max 250 (min 1000 delay), repeatRate := max 5 (min 20 rate.toNat) } })))
    ∧ ∀ (layer first : Byte) (es : List (Byte × Byte × Byte)),
        1 ≤ es.length → es.length ≤ 12 → CanTake 0x19 (layer :: first :: es.flatMap fun e => [e.1, e.2.1, e.2.2]) s →
      let p := layer :: first :: es.flatMap fun e => [e.1, e.2.1, e.2.2]
      let good (e : Byte × Byte × Byte) : Prop := e.2.2.toNat < 4
        ∧ ((e.1 = 0x00 ∧ e.2.1 = 0x00) ∨ e.1 = 0x01 ∨ (e.1 = 0x02 ∧ e.2.1.toNat < 4) ∨ (e.1 = 0x03 ∧ e.2.1.toNat < 3))
      let legal := layer.toNat < 4 ∧ first.toNat + es.length ≤ 72 ∧ ∀ e ∈ es, good e
      let means (e : Byte × Byte × Byte) : KeyEntry :=
        { kind := if e.1 = 0x00 then .none
            else if e.1 = 0x01 then .char e.2.1
            else if e.1 = 0x02 then .modifier ([Modifier.shift, .ctrl, .fn, .lock].getD e.2.1.toNat .shift)
            else .action ([KeyAction.sendBreak, .feed, .pause].getD e.2.1.toNat .sendBreak)
          repeats := e.2.2.getLsbD 0, lockable := e.2.2.getLsbD 1 }
      (¬ legal → exec (.loadKeymap dt p) s = .next (settleRow (answered dt (.reject 0x19 .range) s)))
      ∧ (legal → (∀ l, (s.keys.keymap.layer l).length = 72) → ∃ km : Keymap,
        exec (.loadKeymap dt p) s = .next (settleRow { answered dt (.done 0x19) s with
          keys := { s.keys with keymap := km } })
        ∧ ∀ (l : Layer) (q : Nat), q < 72 → (km.layer l)[q]? =
            if [Layer.plain, .shift, .ctrl, .fn][layer.toNat]? = some l ∧ first.toNat ≤ q ∧ q < first.toNat + es.length
            then (es[q - first.toNat]?).map means else (s.keys.keymap.layer l)[q]?))
  ∧ (∀ (s : State) (due : Micros), s.resetting = none →
    (∀ c, s.keys.repeatTimer = some due → s.keys.repeatCode = some c →
      exec .repeatTimerExpiry s = .next (settleRow { s with
        now := max s.now due
        keys := { s.keys with
          repeatTimer := some (max s.now due + 1000 * (1000 / s.keys.repeatRate))
          queue := if s.keys.queue.length < 4 then s.keys.queue ++ [{ code := c, repeated := true }] else s.keys.queue } }))
    ∧ (∀ b, s.keys.beeper = some b →
      exec .beeperEndTime s = .next (settleRow { s with now := max s.now b.due, keys := { s.keys with beeper := none } })))
  ∧ (∀ (s : State) (o : Owner), o ≠ .none →
    (takeItem o (.char 0x07) s).keys = { s.keys with beeper := beepFrom s.keys.beeper s.now (s.now + 150000) })
  ∧ (∀ s : State, (s.keys.beeper = none → beepAway s = false)
    ∧ ∀ (b : Beep) (n : Nat), s.keys.beeper = some b → b.since + 250 * n ≤ s.now → s.now < b.since + 250 * (n + 1) →
      beepAway s = decide (n % 2 = 0))

/-- R136: a position reads down exactly when a chain of closed keys joins its sense line to its drive line, however long the
chain is; a closed key reads down, and three corners of a rectangle make the fourth read down. -/
def Obligations.MatrixReadsChains : Prop :=
  ∀ (closed : List Nat) (d : Nat), d < 8 →
    (readings closed d).length = 9
    ∧ ∀ c, c < 9 →
      ((readings closed d).getD c false = true ↔ Chain closed d c)
      ∧ (d * 9 + c ∈ closed → (readings closed d).getD c false = true)
      ∧ ∀ c' d', c' < 9 → d' < 8 → d * 9 + c' ∈ closed → d' * 9 + c' ∈ closed → d' * 9 + c ∈ closed →
        (readings closed d).getD c false = true

/-- R136 to R140: the drive line of the present slot is pulled low, the whole slot through (log 20), and the other seven are
released. The reading of the drive line that is due, with the contacts that are closed then (log 16); the next is due
0.5 ms later, of the next line. In the first pass a position reading down is DOWN and refused and any other is UP, and nothing
else happens. From the second pass on a reading that agrees with the debounced state clears the change count, one that differs
counts up, and at the debounce count the state changes; the key-ups and key-downs of the reading are then handled together. No
other record is touched. -/
def Obligations.ScanReadingsAreDebounced : Prop :=
  ∀ (s : State) (due : Micros) (closed : List Nat), s.resetting = none → s.keys.slot = some due →
      s.keys.records.length = 72 → s.keys.scanLine < 8 →
    let line := s.keys.scanLine
    let down (p : Nat) : Bool := (readings closed line).getD (p - 9 * line) false
    let ours (p : Nat) : Prop := 9 * line ≤ p ∧ p < 9 * line + 9
    let t := max s.now due
    let scanned (records : List KeyRecord) : State := { s with
      now := t
      keys := { s.keys with
        records := records, scanLine := (line + 1) % 8, firstPass := s.keys.firstPass && decide (line < 7)
        slot := some (t + 500) } }
    (∀ n, driveLow s n = true ↔ n = line)
    ∧ ∃ records : List KeyRecord, records.length = 72
      ∧ (∀ p, p < 72 → ¬ ours p → records[p]? = s.keys.records[p]?)
      ∧ (s.keys.firstPass = true →
        exec (.scanReading closed) s = .next (settleRow (scanned records))
        ∧ ∀ p, ours p → records[p]? = some
          { down := down p, count := 0, refused := down p, role := .none, latest := down p })
      ∧ (s.keys.firstPass = false → ∃ ups downs : List Nat,
        exec (.scanReading closed) s = .next (settleRow (handleEdges ups downs (scanned records)))
        ∧ ups.Pairwise (· < ·) ∧ downs.Pairwise (· < ·)
        ∧ (∀ p, p ∈ ups ∨ p ∈ downs → ours p)
        ∧ ∀ p r, ours p → s.keys.records[p]? = some r →
          let turns := down p ≠ r.down ∧ s.keys.debounce ≤ r.count + 1
          (p ∈ ups ↔ turns ∧ r.down = true) ∧ (p ∈ downs ↔ turns ∧ r.down = false)
          ∧ (down p = r.down → records[p]? = some { r with count := 0, latest := down p })
          ∧ (turns → records[p]? = some { r with down := down p, count := 0, latest := down p })
          ∧ (down p ≠ r.down → r.count + 1 < s.keys.debounce →
            records[p]? = some { r with count := r.count + 1, latest := down p }))

/-- R140 to R146, R149, R150: the key-ups and key-downs of one reading. A key-up clears the position's refusal and role, and
stops repeat if it was the repeat key's and not refused. The ghosts among the key-downs, judged together after the key-ups,
are those that complete a rectangle of positions held down: each is refused and counted. The rest act one after another. A
modifier's takes its role, and LOCK's toggles the lock. Any other is refused while 2 or 6 NON-MODIFIER positions are down, and
else takes the role, replaces the repeat record and acts by its entry in the layer that the modifiers and the lock choose: a
code joins the key queue, or at a full queue is lost, counted and latched with a click; the actions are BREAK in an open call,
which also gives up a mark still owed to an earlier break (log 14), a key feed, and a toggle of operator pause. -/
def Obligations.KeyEdgesAct : Prop :=
  (∀ (s : State) (ups downs : List Nat),
    (∀ p r, s.keys.records[p]? = some r →
      (s.keys.keyUp p).records = s.keys.records.set p { r with refused := false, role := .none }
      ∧ (r.refused = false → r.role = .nonModifier → s.keys.repeatKey = some p →
        s.keys.keyUp p = { s.keys with
          records := (s.keys.keyUp p).records, repeatKey := none, repeatCode := none, repeatTimer := none })
      ∧ (¬ (r.refused = false ∧ r.role = .nonModifier ∧ s.keys.repeatKey = some p) →
        s.keys.keyUp p = { s.keys with records := (s.keys.keyUp p).records }))
    ∧ (∀ d c, d < 8 → c < 9 → (s.keys.isGhost (9 * d + c) = true ↔
        ∃ d' c', d' < 8 ∧ c' < 9 ∧ d' ≠ d ∧ c' ≠ c ∧ ∀ q ∈ [9 * d + c', 9 * d' + c, 9 * d' + c'],
          ∃ r, s.keys.records[q]? = some r ∧ (r.down = true ∨ r.latest = true)))
    ∧ (let k := ups.foldl Keys.keyUp s.keys
      let ghosts := downs.filter k.isGhost
      ∃ k', handleEdges ups downs s = (downs.filter fun p => !k.isGhost p).foldl (fun s' p => keyDown p s') { s with keys := k' }
        ∧ k' = { k with records := k'.records, ghosts := if ghosts = [] then k.ghosts else min (k.ghosts + ghosts.length) 65535 }
        ∧ k'.records.length = k.records.length
        ∧ ∀ p r, k.records[p]? = some r →
          k'.records[p]? = some (if p ∈ ghosts then { r with refused := true } else r)))
  ∧ (∀ (s : State) (p : Nat) (r : KeyRecord), s.keys.records[p]? = some r →
    let held (role : KeyRole) : Prop := ∃ r' ∈ s.keys.records, r'.down = true ∧ r'.role = role
    let plain := s.keys.keymap.entry .plain p
    let others := (s.keys.records.filter fun r' => r'.down && decide (r'.role = .nonModifier)).length
    let limit := if s.keys.rolloverSix then 6 else 2
    (∀ m, plain.kind = .modifier m →
      keyDown p s = { s with keys := { s.keys with
        records := s.keys.records.set p { r with role := m.role }
        lock := if m = .lock then !s.keys.lock else s.keys.lock } })
    ∧ ((∀ m, plain.kind ≠ .modifier m) → limit ≤ others →
      keyDown p s = { s with keys := { s.keys with records := s.keys.records.set p { r with refused := true } } })
    ∧ ((∀ m, plain.kind ≠ .modifier m) → others < limit → ∀ layer,
        ((held .fn ∧ layer = .fn) ∨ (¬ held .fn ∧ held .ctrl ∧ layer = .ctrl)
          ∨ (¬ held .fn ∧ ¬ held .ctrl ∧ held .shift ∧ layer = .shift)
          ∨ (¬ held .fn ∧ ¬ held .ctrl ∧ ¬ held .shift ∧ s.keys.lock = true ∧ plain.lockable = true ∧ layer = .shift)
          ∨ (¬ held .fn ∧ ¬ held .ctrl ∧ ¬ held .shift ∧ ¬ (s.keys.lock = true ∧ plain.lockable = true) ∧ layer = .plain)) →
      let e := s.keys.keymap.entry layer p
      let k (code : Option Byte) : Keys := { s.keys with
        records := s.keys.records.set p { r with role := .nonModifier }
        repeatKey := some p, repeatCode := code
        repeatTimer := code.map fun _ => s.now + 1000 * s.keys.repeatDelay }
      (∀ c, e.kind = .char c →
        let kc := k (if e.repeats then some c else none)
        (s.keys.queue.length < 16 →
          keyDown p s = { s with keys := { kc with queue := s.keys.queue ++ [{ code := c, repeated := false }] } })
        ∧ (16 ≤ s.keys.queue.length →
          keyDown p s = { s with
            link := s.link.setLatch .keyLost
            keys := { kc with
              keysLost := min (s.keys.keysLost + 1) 65535
              beeper := beepFrom s.keys.beeper s.now (match s.keys.beeper with
                | none => s.now + 40000
                | some b => max b.due (s.now + 40000)) } }))
      ∧ (e.kind = .none ∨ (∃ m, e.kind = .modifier m) → keyDown p s = { s with keys := k none })
      ∧ (e.kind = .action .sendBreak →
        keyDown p s = { s with
          keys := k none
          signal := if s.conn.state = .online ∨ s.conn.state = .fade then
              { s.signal with breakTimer := some (s.now + 250000), markTimer := none }
            else s.signal })
      ∧ (e.kind = .action .feed → keyDown p s = { s with keys := k none, fmt := { s.fmt with keyFeed := true } })
      ∧ (e.kind = .action .pause → keyDown p s = togglePause { s with keys := k none })))


/-! ### Frames byte by byte, and what every step keeps -/

/-- R177, R178, R179, R182: a lead byte, a kind byte, a length byte of at most 40 and that many payload bytes, waiting in this
order in the model's queue (log 1) and less than 10 ms apart, leave the receiver at the check byte of that frame: with LRDY high
at the lead byte the command of that kind and payload can be taken, with LRDY low it is discarded. The times add up, and what
waits behind them still waits. -/
def Obligations.FrameBytesMakeACommand : Prop :=
  ∀ (s : State) (dt : Micros) (bytes : List (Micros × Byte)) (kind : Byte) (p : List Byte) (rest : List Instr),
    s.resetting = none → s.link.receiver = .outside → p.length ≤ 40 →
    (∀ b ∈ bytes, b.1 < 10000) → bytes.map Prod.snd = kind :: BitVec.ofNat 8 p.length :: p →
    s.pending = .leadByte dt :: bytes.map (fun b => .frameByteReceived b.1 b.2) ++ rest →
    ∃ t, stepsTo (1 + bytes.length) s = some t
      ∧ t.pending = rest ∧ t.now = s.now + dt + (bytes.map Prod.fst).sum
      ∧ (lrdy s = true → CanTake kind p t) ∧ (lrdy s = false → CanDiscard kind p t)

/-- R3, R53, R80, R88, R150, R159, R162, R164, R166, R171, R181: every step from a sound state keeps each queue within its
capacity, room for the reply to the ready frame being received, and the flow slot in agreement with the local hold state. -/
def Obligations.QueuesNeverOverflow : Prop :=
  ∀ s t : State, Sound s → step s = .next t → QueuesFit t ∧ SlotAgrees t

/-- R1, R41, R96, R119, R152, R168, R177, R193: every step from a sound state keeps each setting within its range, each
counter at 65535 or below, and the bytes on LTXD a frame whose length and check byte are right. -/
def Obligations.SettingsStayInRange : Prop :=
  ∀ s t : State, Sound s → step s = .next t → SettingsOk t ∧ CountersFit t ∧ WireOk t

/-- R52 to R58, R72, R80, R85, R88: every step from a sound state keeps the margins apart, the cursor column between the left
margin and the right margin + 1, forty cells in every open line and at most three codes in a cell, none twice, and every
record of the print text queue within its ranges. -/
def Obligations.FormatterStaysSound : Prop :=
  ∀ s t : State, Sound s → step s = .next t → FormatterOk t

/-- R5 to R9, R15, R17, R18: every step from a sound state keeps the driver's state, the motor and the driver's timers in
agreement: a pulse only in BURNING with the motor HELD, a step only in STEPPING, the hold timer only in IDLE or PAUSED with
the motor HELD, and a pause reason only in PAUSED. -/
def Obligations.DriverStaysSound : Prop :=
  ∀ s t : State, Sound s → step s = .next t → DriverOk t

/-- R110, R118, R121 to R127, R131, R137, R138, R149: every step from a sound state keeps each timer of the connection running
in its own states alone, the loop mode suited to the connect state, the Carrier Monitor idle in TEST with LOCAL CHAR alone,
and the 72 debounce records and the keymap whole. -/
def Obligations.CallAndKeysStaySound : Prop :=
  ∀ s t : State, Sound s → step s = .next t → ConnectionOk t ∧ KeyboardOk t

/-- R3, R4, R12, R38, R40, R64, R90: every step from a sound state keeps at least one dot, ascending below 320, in each BURN entry
and 1 to 255 rows in each FEED entry of the row queue and of a drain; the burned dots of the row in hand among its marked ones,
none twice, with a phase still to be made exactly while a dot is left; and a phase of 1 to the maximum number of dots, all of them
unburned, with a width from 100 µs to the maximum pulse width. -/
def Obligations.RowsStaySound : Prop :=
  ∀ s t : State, Sound s → step s = .next t → RowsOk t

/-- R2, R194: once set, the head configuration changes at no row but a power-up reset, which leaves it not set; and while it is
not set, only SET HEAD sets it. -/
def Obligations.HeadConfigurationStands : Prop :=
  ∀ (i : Instr) (s t : State), exec i s = .next t →
    (∀ c, s.head.config = some c → (∀ dt, i ≠ .powerUpReset dt) → t.head.config = some c)
    ∧ (∀ dt, i = .powerUpReset dt → t.head.config = none)
    ∧ (s.head.config = none → t.head.config ≠ none → ∃ dt p, i = .setHead dt p)

/-- R107, R171, R174, R194: the flow codes sent strictly alternate, and the first after a reset or a return to IDLE is a hold,
from every state in which the flow slot agrees with the local hold state and each timer of the connection runs in its own states
alone. At every step the kind to be sent next is hold after a reset or a return to IDLE, the other kind after a code is sent,
which is of the kind that was to be sent, and as it was after every other row. -/
def Obligations.FlowCodesAlternate : Prop :=
  ∀ (i : Instr) (rest : List Instr) (s t : State), SlotAgrees s → ConnectionOk s →
    s.pending = i :: rest → step s = .next t →
    SlotAgrees t
    ∧ (beginsAnew i s t → nextFlow t = .hold)
    ∧ (∀ k, flowSent i s = some k → nextFlow s = k ∧ nextFlow t ≠ k)
    ∧ (¬ beginsAnew i s t → flowSent i s = none → nextFlow t = nextFlow s)
end

