-- ==== Sys2Proof/Laws/State.lean ====
section
/-!
SUPPORT. What each update of the state leaves in each field, so that no proof unfolds a record update.
-/

namespace Sys2Proof.Laws

open Sys2Proof.Machine

/-! ### The clock -/

@[simp] theorem after_now (dt : Micros) (s : State) : (after dt s).now = s.now + dt := rfl
@[simp] theorem after_pending (dt : Micros) (s : State) : (after dt s).pending = s.pending := rfl
@[simp] theorem after_resetting (dt : Micros) (s : State) : (after dt s).resetting = s.resetting := rfl
@[simp] theorem after_resetEnd (dt : Micros) (s : State) : (after dt s).resetEnd = s.resetEnd := rfl
@[simp] theorem after_link (dt : Micros) (s : State) : (after dt s).link = s.link := rfl
@[simp] theorem after_supply (dt : Micros) (s : State) : (after dt s).supply = s.supply := rfl
@[simp] theorem after_head (dt : Micros) (s : State) : (after dt s).head = s.head := rfl
@[simp] theorem after_fmt (dt : Micros) (s : State) : (after dt s).fmt = s.fmt := rfl
@[simp] theorem after_format (dt : Micros) (s : State) : (after dt s).format = s.format := rfl
@[simp] theorem after_tone (dt : Micros) (s : State) : (after dt s).tone = s.tone := rfl
@[simp] theorem after_signal (dt : Micros) (s : State) : (after dt s).signal = s.signal := rfl
@[simp] theorem after_monitor (dt : Micros) (s : State) : (after dt s).monitor = s.monitor := rfl
@[simp] theorem after_conn (dt : Micros) (s : State) : (after dt s).conn = s.conn := rfl
@[simp] theorem after_router (dt : Micros) (s : State) : (after dt s).router = s.router := rfl
@[simp] theorem after_keys (dt : Micros) (s : State) : (after dt s).keys = s.keys := rfl

/-! ### The end of a timer -/

@[simp] theorem atMoment_now (t : Micros) (s : State) : (atMoment t s).now = max s.now t := rfl
@[simp] theorem atMoment_pending (t : Micros) (s : State) : (atMoment t s).pending = s.pending := rfl
@[simp] theorem atMoment_resetting (t : Micros) (s : State) : (atMoment t s).resetting = s.resetting := rfl
@[simp] theorem atMoment_resetEnd (t : Micros) (s : State) : (atMoment t s).resetEnd = s.resetEnd := rfl
@[simp] theorem atMoment_link (t : Micros) (s : State) : (atMoment t s).link = s.link := rfl
@[simp] theorem atMoment_supply (t : Micros) (s : State) : (atMoment t s).supply = s.supply := rfl
@[simp] theorem atMoment_head (t : Micros) (s : State) : (atMoment t s).head = s.head := rfl
@[simp] theorem atMoment_fmt (t : Micros) (s : State) : (atMoment t s).fmt = s.fmt := rfl
@[simp] theorem atMoment_format (t : Micros) (s : State) : (atMoment t s).format = s.format := rfl
@[simp] theorem atMoment_tone (t : Micros) (s : State) : (atMoment t s).tone = s.tone := rfl
@[simp] theorem atMoment_signal (t : Micros) (s : State) : (atMoment t s).signal = s.signal := rfl
@[simp] theorem atMoment_monitor (t : Micros) (s : State) : (atMoment t s).monitor = s.monitor := rfl
@[simp] theorem atMoment_conn (t : Micros) (s : State) : (atMoment t s).conn = s.conn := rfl
@[simp] theorem atMoment_router (t : Micros) (s : State) : (atMoment t s).router = s.router := rfl
@[simp] theorem atMoment_keys (t : Micros) (s : State) : (atMoment t s).keys = s.keys := rfl

/-! ### The receiver goes outside -/

@[simp] theorem closeFrame_now (s : State) : (closeFrame s).now = s.now := rfl
@[simp] theorem closeFrame_pending (s : State) : (closeFrame s).pending = s.pending := rfl
@[simp] theorem closeFrame_resetting (s : State) : (closeFrame s).resetting = s.resetting := rfl
@[simp] theorem closeFrame_resetEnd (s : State) : (closeFrame s).resetEnd = s.resetEnd := rfl
@[simp] theorem closeFrame_link (s : State) : (closeFrame s).link = { s.link with receiver := .outside, gap := none } := rfl
@[simp] theorem closeFrame_supply (s : State) : (closeFrame s).supply = s.supply := rfl
@[simp] theorem closeFrame_head (s : State) : (closeFrame s).head = s.head := rfl
@[simp] theorem closeFrame_fmt (s : State) : (closeFrame s).fmt = s.fmt := rfl
@[simp] theorem closeFrame_format (s : State) : (closeFrame s).format = s.format := rfl
@[simp] theorem closeFrame_tone (s : State) : (closeFrame s).tone = s.tone := rfl
@[simp] theorem closeFrame_signal (s : State) : (closeFrame s).signal = s.signal := rfl
@[simp] theorem closeFrame_monitor (s : State) : (closeFrame s).monitor = s.monitor := rfl
@[simp] theorem closeFrame_conn (s : State) : (closeFrame s).conn = s.conn := rfl
@[simp] theorem closeFrame_router (s : State) : (closeFrame s).router = s.router := rfl
@[simp] theorem closeFrame_keys (s : State) : (closeFrame s).keys = s.keys := rfl

/-! ### A reply joins its queue -/

@[simp] theorem reply_now (r : Reply) (s : State) : (reply r s).now = s.now := rfl
@[simp] theorem reply_pending (r : Reply) (s : State) : (reply r s).pending = s.pending := rfl
@[simp] theorem reply_resetting (r : Reply) (s : State) : (reply r s).resetting = s.resetting := rfl
@[simp] theorem reply_resetEnd (r : Reply) (s : State) : (reply r s).resetEnd = s.resetEnd := rfl
@[simp] theorem reply_link (r : Reply) (s : State) : (reply r s).link = { s.link with replies := s.link.replies ++ [r] } := rfl
@[simp] theorem reply_supply (r : Reply) (s : State) : (reply r s).supply = s.supply := rfl
@[simp] theorem reply_head (r : Reply) (s : State) : (reply r s).head = s.head := rfl
@[simp] theorem reply_fmt (r : Reply) (s : State) : (reply r s).fmt = s.fmt := rfl
@[simp] theorem reply_format (r : Reply) (s : State) : (reply r s).format = s.format := rfl
@[simp] theorem reply_tone (r : Reply) (s : State) : (reply r s).tone = s.tone := rfl
@[simp] theorem reply_signal (r : Reply) (s : State) : (reply r s).signal = s.signal := rfl
@[simp] theorem reply_monitor (r : Reply) (s : State) : (reply r s).monitor = s.monitor := rfl
@[simp] theorem reply_conn (r : Reply) (s : State) : (reply r s).conn = s.conn := rfl
@[simp] theorem reply_router (r : Reply) (s : State) : (reply r s).router = s.router := rfl
@[simp] theorem reply_keys (r : Reply) (s : State) : (reply r s).keys = s.keys := rfl

/-! ### A latch sets -/

@[simp] theorem setLatch_now (l : Latch) (s : State) : (setLatch l s).now = s.now := rfl
@[simp] theorem setLatch_pending (l : Latch) (s : State) : (setLatch l s).pending = s.pending := rfl
@[simp] theorem setLatch_resetting (l : Latch) (s : State) : (setLatch l s).resetting = s.resetting := rfl
@[simp] theorem setLatch_resetEnd (l : Latch) (s : State) : (setLatch l s).resetEnd = s.resetEnd := rfl
@[simp] theorem setLatch_link (l : Latch) (s : State) : (setLatch l s).link = s.link.setLatch l := rfl
@[simp] theorem setLatch_supply (l : Latch) (s : State) : (setLatch l s).supply = s.supply := rfl
@[simp] theorem setLatch_head (l : Latch) (s : State) : (setLatch l s).head = s.head := rfl
@[simp] theorem setLatch_fmt (l : Latch) (s : State) : (setLatch l s).fmt = s.fmt := rfl
@[simp] theorem setLatch_format (l : Latch) (s : State) : (setLatch l s).format = s.format := rfl
@[simp] theorem setLatch_tone (l : Latch) (s : State) : (setLatch l s).tone = s.tone := rfl
@[simp] theorem setLatch_signal (l : Latch) (s : State) : (setLatch l s).signal = s.signal := rfl
@[simp] theorem setLatch_monitor (l : Latch) (s : State) : (setLatch l s).monitor = s.monitor := rfl
@[simp] theorem setLatch_conn (l : Latch) (s : State) : (setLatch l s).conn = s.conn := rfl
@[simp] theorem setLatch_router (l : Latch) (s : State) : (setLatch l s).router = s.router := rfl
@[simp] theorem setLatch_keys (l : Latch) (s : State) : (setLatch l s).keys = s.keys := rfl

/-! ### A latch may set -/

@[simp] theorem setLatchIf_now (b : Bool) (l : Latch) (s : State) : (setLatchIf b l s).now = s.now := rfl
@[simp] theorem setLatchIf_pending (b : Bool) (l : Latch) (s : State) : (setLatchIf b l s).pending = s.pending := rfl
@[simp] theorem setLatchIf_resetting (b : Bool) (l : Latch) (s : State) : (setLatchIf b l s).resetting = s.resetting := rfl
@[simp] theorem setLatchIf_resetEnd (b : Bool) (l : Latch) (s : State) : (setLatchIf b l s).resetEnd = s.resetEnd := rfl
@[simp] theorem setLatchIf_link (b : Bool) (l : Latch) (s : State) : (setLatchIf b l s).link = if b then s.link.setLatch l else s.link := rfl
@[simp] theorem setLatchIf_supply (b : Bool) (l : Latch) (s : State) : (setLatchIf b l s).supply = s.supply := rfl
@[simp] theorem setLatchIf_head (b : Bool) (l : Latch) (s : State) : (setLatchIf b l s).head = s.head := rfl
@[simp] theorem setLatchIf_fmt (b : Bool) (l : Latch) (s : State) : (setLatchIf b l s).fmt = s.fmt := rfl
@[simp] theorem setLatchIf_format (b : Bool) (l : Latch) (s : State) : (setLatchIf b l s).format = s.format := rfl
@[simp] theorem setLatchIf_tone (b : Bool) (l : Latch) (s : State) : (setLatchIf b l s).tone = s.tone := rfl
@[simp] theorem setLatchIf_signal (b : Bool) (l : Latch) (s : State) : (setLatchIf b l s).signal = s.signal := rfl
@[simp] theorem setLatchIf_monitor (b : Bool) (l : Latch) (s : State) : (setLatchIf b l s).monitor = s.monitor := rfl
@[simp] theorem setLatchIf_conn (b : Bool) (l : Latch) (s : State) : (setLatchIf b l s).conn = s.conn := rfl
@[simp] theorem setLatchIf_router (b : Bool) (l : Latch) (s : State) : (setLatchIf b l s).router = s.router := rfl
@[simp] theorem setLatchIf_keys (b : Bool) (l : Latch) (s : State) : (setLatchIf b l s).keys = s.keys := rfl

/-! ### A LINE STATE report may become pending -/

@[simp] theorem pendLineState_now (s : State) : (pendLineState s).now = s.now := rfl
@[simp] theorem pendLineState_pending (s : State) : (pendLineState s).pending = s.pending := rfl
@[simp] theorem pendLineState_resetting (s : State) : (pendLineState s).resetting = s.resetting := rfl
@[simp] theorem pendLineState_resetEnd (s : State) : (pendLineState s).resetEnd = s.resetEnd := rfl
@[simp] theorem pendLineState_link (s : State) : (pendLineState s).link = s.link.pendLine := rfl
@[simp] theorem pendLineState_supply (s : State) : (pendLineState s).supply = s.supply := rfl
@[simp] theorem pendLineState_head (s : State) : (pendLineState s).head = s.head := rfl
@[simp] theorem pendLineState_fmt (s : State) : (pendLineState s).fmt = s.fmt := rfl
@[simp] theorem pendLineState_format (s : State) : (pendLineState s).format = s.format := rfl
@[simp] theorem pendLineState_tone (s : State) : (pendLineState s).tone = s.tone := rfl
@[simp] theorem pendLineState_signal (s : State) : (pendLineState s).signal = s.signal := rfl
@[simp] theorem pendLineState_monitor (s : State) : (pendLineState s).monitor = s.monitor := rfl
@[simp] theorem pendLineState_conn (s : State) : (pendLineState s).conn = s.conn := rfl
@[simp] theorem pendLineState_router (s : State) : (pendLineState s).router = s.router := rfl
@[simp] theorem pendLineState_keys (s : State) : (pendLineState s).keys = s.keys := rfl

/-! ### The Tone Generator follows its causes -/

@[simp] theorem settleTone_now (s : State) : (settleTone s).now = s.now := rfl
@[simp] theorem settleTone_pending (s : State) : (settleTone s).pending = s.pending := rfl
@[simp] theorem settleTone_resetting (s : State) : (settleTone s).resetting = s.resetting := rfl
@[simp] theorem settleTone_resetEnd (s : State) : (settleTone s).resetEnd = s.resetEnd := rfl
@[simp] theorem settleTone_link (s : State) : (settleTone s).link = s.link := rfl
@[simp] theorem settleTone_supply (s : State) : (settleTone s).supply = s.supply := rfl
@[simp] theorem settleTone_head (s : State) : (settleTone s).head = s.head := rfl
@[simp] theorem settleTone_fmt (s : State) : (settleTone s).fmt = s.fmt := rfl
@[simp] theorem settleTone_format (s : State) : (settleTone s).format = s.format := rfl
@[simp] theorem settleTone_tone (s : State) : (settleTone s).tone = s.tone.change (wantedTone s) (txChannel s.conn) s.now := rfl
@[simp] theorem settleTone_signal (s : State) : (settleTone s).signal = s.signal := rfl
@[simp] theorem settleTone_monitor (s : State) : (settleTone s).monitor = s.monitor := rfl
@[simp] theorem settleTone_conn (s : State) : (settleTone s).conn = s.conn := rfl
@[simp] theorem settleTone_router (s : State) : (settleTone s).router = s.router := rfl
@[simp] theorem settleTone_keys (s : State) : (settleTone s).keys = s.keys := rfl

/-! ### A character leaves the Deframer -/

@[simp] theorem setDeframer_now (d : Deframer) (s : State) : (setDeframer d s).now = s.now := rfl
@[simp] theorem setDeframer_pending (d : Deframer) (s : State) : (setDeframer d s).pending = s.pending := rfl
@[simp] theorem setDeframer_resetting (d : Deframer) (s : State) : (setDeframer d s).resetting = s.resetting := rfl
@[simp] theorem setDeframer_resetEnd (d : Deframer) (s : State) : (setDeframer d s).resetEnd = s.resetEnd := rfl
@[simp] theorem setDeframer_link (d : Deframer) (s : State) : (setDeframer d s).link = s.link := rfl
@[simp] theorem setDeframer_supply (d : Deframer) (s : State) : (setDeframer d s).supply = s.supply := rfl
@[simp] theorem setDeframer_head (d : Deframer) (s : State) : (setDeframer d s).head = s.head := rfl
@[simp] theorem setDeframer_fmt (d : Deframer) (s : State) : (setDeframer d s).fmt = s.fmt := rfl
@[simp] theorem setDeframer_format (d : Deframer) (s : State) : (setDeframer d s).format = s.format := rfl
@[simp] theorem setDeframer_tone (d : Deframer) (s : State) : (setDeframer d s).tone = s.tone := rfl
@[simp] theorem setDeframer_signal (d : Deframer) (s : State) : (setDeframer d s).signal = { s.signal with deframer := d } := rfl
@[simp] theorem setDeframer_monitor (d : Deframer) (s : State) : (setDeframer d s).monitor = s.monitor := rfl
@[simp] theorem setDeframer_conn (d : Deframer) (s : State) : (setDeframer d s).conn = s.conn := rfl
@[simp] theorem setDeframer_router (d : Deframer) (s : State) : (setDeframer d s).router = s.router := rfl
@[simp] theorem setDeframer_keys (d : Deframer) (s : State) : (setDeframer d s).keys = s.keys := rfl

/-! ### A muted character -/

@[simp] theorem muteOne_now (s : State) : (muteOne s).now = s.now := rfl
@[simp] theorem muteOne_pending (s : State) : (muteOne s).pending = s.pending := rfl
@[simp] theorem muteOne_resetting (s : State) : (muteOne s).resetting = s.resetting := rfl
@[simp] theorem muteOne_resetEnd (s : State) : (muteOne s).resetEnd = s.resetEnd := rfl
@[simp] theorem muteOne_link (s : State) : (muteOne s).link = s.link := rfl
@[simp] theorem muteOne_supply (s : State) : (muteOne s).supply = s.supply := rfl
@[simp] theorem muteOne_head (s : State) : (muteOne s).head = s.head := rfl
@[simp] theorem muteOne_fmt (s : State) : (muteOne s).fmt = s.fmt := rfl
@[simp] theorem muteOne_format (s : State) : (muteOne s).format = s.format := rfl
@[simp] theorem muteOne_tone (s : State) : (muteOne s).tone = s.tone := rfl
@[simp] theorem muteOne_signal (s : State) : (muteOne s).signal = { s.signal with muted := countUp s.signal.muted } := rfl
@[simp] theorem muteOne_monitor (s : State) : (muteOne s).monitor = s.monitor := rfl
@[simp] theorem muteOne_conn (s : State) : (muteOne s).conn = s.conn := rfl
@[simp] theorem muteOne_router (s : State) : (muteOne s).router = s.router := rfl
@[simp] theorem muteOne_keys (s : State) : (muteOne s).keys = s.keys := rfl

/-! ### The figures given -/

@[simp] theorem recordFigures_now (f : Figures) (s : State) : (recordFigures f s).now = s.now := rfl
@[simp] theorem recordFigures_pending (f : Figures) (s : State) : (recordFigures f s).pending = s.pending := rfl
@[simp] theorem recordFigures_resetting (f : Figures) (s : State) : (recordFigures f s).resetting = s.resetting := rfl
@[simp] theorem recordFigures_resetEnd (f : Figures) (s : State) : (recordFigures f s).resetEnd = s.resetEnd := rfl
@[simp] theorem recordFigures_link (f : Figures) (s : State) : (recordFigures f s).link = s.link := rfl
@[simp] theorem recordFigures_supply (f : Figures) (s : State) : (recordFigures f s).supply = { s.supply with lastLimit := f.limit, lastCold := f.cold, lastHot := f.hot } := rfl
@[simp] theorem recordFigures_head (f : Figures) (s : State) : (recordFigures f s).head = s.head := rfl
@[simp] theorem recordFigures_fmt (f : Figures) (s : State) : (recordFigures f s).fmt = s.fmt := rfl
@[simp] theorem recordFigures_format (f : Figures) (s : State) : (recordFigures f s).format = s.format := rfl
@[simp] theorem recordFigures_tone (f : Figures) (s : State) : (recordFigures f s).tone = s.tone := rfl
@[simp] theorem recordFigures_signal (f : Figures) (s : State) : (recordFigures f s).signal = s.signal := rfl
@[simp] theorem recordFigures_monitor (f : Figures) (s : State) : (recordFigures f s).monitor = s.monitor := rfl
@[simp] theorem recordFigures_conn (f : Figures) (s : State) : (recordFigures f s).conn = s.conn := rfl
@[simp] theorem recordFigures_router (f : Figures) (s : State) : (recordFigures f s).router = s.router := rfl
@[simp] theorem recordFigures_keys (f : Figures) (s : State) : (recordFigures f s).keys = s.keys := rfl

/-! ### A character is framed -/

@[simp] theorem beginFraming_now (c : Byte) (s : State) : (beginFraming c s).now = s.now := rfl
@[simp] theorem beginFraming_pending (c : Byte) (s : State) : (beginFraming c s).pending = s.pending := rfl
@[simp] theorem beginFraming_resetting (c : Byte) (s : State) : (beginFraming c s).resetting = s.resetting := rfl
@[simp] theorem beginFraming_resetEnd (c : Byte) (s : State) : (beginFraming c s).resetEnd = s.resetEnd := rfl
@[simp] theorem beginFraming_link (c : Byte) (s : State) : (beginFraming c s).link = s.link := rfl
@[simp] theorem beginFraming_supply (c : Byte) (s : State) : (beginFraming c s).supply = s.supply := rfl
@[simp] theorem beginFraming_head (c : Byte) (s : State) : (beginFraming c s).head = s.head := rfl
@[simp] theorem beginFraming_fmt (c : Byte) (s : State) : (beginFraming c s).fmt = s.fmt := rfl
@[simp] theorem beginFraming_format (c : Byte) (s : State) : (beginFraming c s).format = s.format := rfl
@[simp] theorem beginFraming_tone (c : Byte) (s : State) : (beginFraming c s).tone = s.tone := rfl
@[simp] theorem beginFraming_signal (c : Byte) (s : State) : (beginFraming c s).signal = { s.signal with framer := some { code := c, start := s.now, cell := 0 } } := rfl
@[simp] theorem beginFraming_monitor (c : Byte) (s : State) : (beginFraming c s).monitor = s.monitor := rfl
@[simp] theorem beginFraming_conn (c : Byte) (s : State) : (beginFraming c s).conn = s.conn := rfl
@[simp] theorem beginFraming_router (c : Byte) (s : State) : (beginFraming c s).router = s.router := rfl
@[simp] theorem beginFraming_keys (c : Byte) (s : State) : (beginFraming c s).keys = s.keys := rfl

/-! ### Remote held clears -/

@[simp] theorem clearRemoteHeld_now (s : State) : (clearRemoteHeld s).now = s.now := rfl
@[simp] theorem clearRemoteHeld_pending (s : State) : (clearRemoteHeld s).pending = s.pending := rfl
@[simp] theorem clearRemoteHeld_resetting (s : State) : (clearRemoteHeld s).resetting = s.resetting := rfl
@[simp] theorem clearRemoteHeld_resetEnd (s : State) : (clearRemoteHeld s).resetEnd = s.resetEnd := rfl
@[simp] theorem clearRemoteHeld_link (s : State) : (clearRemoteHeld s).link = if s.router.remoteHeld then s.link.pendLine else s.link := rfl
@[simp] theorem clearRemoteHeld_supply (s : State) : (clearRemoteHeld s).supply = s.supply := rfl
@[simp] theorem clearRemoteHeld_head (s : State) : (clearRemoteHeld s).head = s.head := rfl
@[simp] theorem clearRemoteHeld_fmt (s : State) : (clearRemoteHeld s).fmt = s.fmt := rfl
@[simp] theorem clearRemoteHeld_format (s : State) : (clearRemoteHeld s).format = s.format := rfl
@[simp] theorem clearRemoteHeld_tone (s : State) : (clearRemoteHeld s).tone = s.tone := rfl
@[simp] theorem clearRemoteHeld_signal (s : State) : (clearRemoteHeld s).signal = s.signal := rfl
@[simp] theorem clearRemoteHeld_monitor (s : State) : (clearRemoteHeld s).monitor = s.monitor := rfl
@[simp] theorem clearRemoteHeld_conn (s : State) : (clearRemoteHeld s).conn = s.conn := rfl
@[simp] theorem clearRemoteHeld_router (s : State) : (clearRemoteHeld s).router = { s.router with remoteHeld := false, remoteTimer := none } := rfl
@[simp] theorem clearRemoteHeld_keys (s : State) : (clearRemoteHeld s).keys = s.keys := rfl

end Sys2Proof.Laws
end

