-- ==== Sys2Proof/Laws/Rows.lean ====
section
/-!
SUPPORT. What a row comes to: the effect of a command or an event outside a reset, the end of a timer, and the two ways a
frame can end.
-/

namespace Sys2Proof.Laws

open Sys2Proof.Machine Sys2Proof.Safety

variable {s : State} {dt due : Micros} {kind : Byte} {p : List Byte}

/-! ### Rows -/

theorem unlessHeld_running (f : State → State) (h : s.resetting = none) : unlessHeld f s = .next (f s) := by
  simp [unlessHeld, h]

theorem unlessHeld_held (f : State → State) (h : s.resetting ≠ none) : unlessHeld f s = .next s := by
  cases hr : s.resetting <;> simp_all [unlessHeld]

/-- R194: a row under a reset changes nothing. -/
theorem row_held (f : State → State) (h : s.resetting ≠ none) : row f s = .next s := unlessHeld_held _ h

theorem row_running (f : State → State) (h : s.resetting = none) : row f s = .next (settleRow (f s)) :=
  unlessHeld_running _ h

theorem timerRow_stopped (t : State → Timer) (f : State → State) (h : t s = none) : timerRow t f s = .next s := by
  simp [timerRow, h]

/-- R194: a timer's row does nothing while a reset holds the part, whether its timer stands or not. -/
theorem timerRow_held (t : State → Timer) (f : State → State) (h : s.resetting ≠ none) : timerRow t f s = .next s := by
  unfold timerRow
  split
  · rfl
  · exact row_held _ h

theorem timerRow_due (t : State → Timer) (f : State → State) (h : s.resetting = none) (ht : t s = some due) :
    timerRow t f s = .next (settleRow (f (atMoment due s))) := by
  simp [timerRow, ht, row_running _ h]

/-- Every row has a next state: `s` itself, or the end of a row after its effect. -/
theorem row_cases (f : State → State) (s : State) :
    (s.resetting ≠ none ∧ row f s = .next s) ∨ (s.resetting = none ∧ row f s = .next (settleRow (f s))) := by
  by_cases h : s.resetting = none
  · exact .inr ⟨h, row_running f h⟩
  · exact .inl ⟨h, row_held f h⟩

theorem timerRow_cases (t : State → Timer) (f : State → State) (s : State) :
    timerRow t f s = .next s ∨
      ∃ due, t s = some due ∧ s.resetting = none ∧ timerRow t f s = .next (settleRow (f (atMoment due s))) := by
  cases ht : t s with
  | none => exact .inl (timerRow_stopped t f ht)
  | some due =>
    by_cases h : s.resetting = none
    · exact .inr ⟨due, rfl, h, timerRow_due t f h ht⟩
    · exact .inl (by simp [timerRow, ht, row_held _ h])

/-! ### The two ways a frame ends -/

theorem frameReady_of_canTake (h : CanTake kind p s) : frameReady kind p s = some true := by
  rcases h.2 with ⟨h1, h2⟩ | h1 <;> simp_all [frameReady, collected]

theorem frameReady_of_canDiscard (h : CanDiscard kind p s) : frameReady kind p s = some false := by
  rcases h.2 with ⟨h1, h2⟩ | h1 <;> simp_all [frameReady, collected]

@[simp] theorem frameReady_after : frameReady kind p (after dt s) = frameReady kind p s := rfl

/-- R179, R181: a ready frame's effect: the receiver is outside, the owner has acted, and its reply has joined the queue. -/
theorem complete_of_canTake (act : State → State × Reply) (h : CanTake kind p s) :
    complete kind p act (after dt s)
      = reply (act (closeFrame (after dt s))).2 (act (closeFrame (after dt s))).1 := by
  simp [complete, frameReady_of_canTake h]

/-- R182: an unready frame's effect: it is discarded and counted. -/
theorem complete_of_canDiscard (act : State → State × Reply) (h : CanDiscard kind p s) :
    complete kind p act (after dt s) = discardUnready (after dt s) := by
  simp [complete, frameReady_of_canDiscard h]

/-- A command row whose frame is ready. -/
theorem commandRow_of_canTake (act : State → State × Reply) (h : CanTake kind p s) :
    commandRow kind dt p act s
      = .next (settleRow (reply (act (closeFrame (after dt s))).2 (act (closeFrame (after dt s))).1)) := by
  rw [commandRow, row_running _ h.1, complete_of_canTake act h]

/-- A command row whose frame is unready. -/
theorem commandRow_of_canDiscard (act : State → State × Reply) (h : CanDiscard kind p s) :
    commandRow kind dt p act s = .next (settleRow (discardUnready (after dt s))) := by
  rw [commandRow, row_running _ h.1, complete_of_canDiscard act h]

/-- What `complete` can do. -/
theorem complete_cases (act : State → State × Reply) (s : State) :
    complete kind p act s = s ∨ complete kind p act s = discardUnready s
      ∨ (frameReady kind p s = some true
          ∧ complete kind p act s = reply (act (closeFrame s)).2 (act (closeFrame s)).1) := by
  unfold complete
  split <;> simp_all

@[simp] theorem answer_error {α : Type} (reason : Reason) (act : α → State → State × Reply) (s : State) :
    answer kind (.error reason) act s = (s, .reject kind reason) := rfl

@[simp] theorem answer_ok {α : Type} (x : α) (act : α → State → State × Reply) (s : State) :
    answer kind (.ok x) act s = act x s := rfl

/-- R181, R180: the answer of a refused command. -/
theorem reply_closeFrame_after (r : Reply) (s : State) :
    reply r (closeFrame (after dt s)) = answered dt r s := rfl

end Sys2Proof.Laws
end

