-- ==== Sys2Proof/Laws/Exec.lean ====
section
/-!
SUPPORT. One law for each row of the table: what `exec` answers when the row's command or event can take place. What an
effect then does is for the laws of the operation it calls.
-/

namespace Sys2Proof.Laws

open Sys2Proof.Machine Sys2Proof.Safety

variable {s : State} {dt due : Micros} {p : List Byte}

/-- Two rows end alike when their effects agree. -/
theorem settled_congr {u v : State} (h : u = v) :
    (Host.Outcome.next (settleRow u) : Host.Outcome State Fault Refusal) = .next (settleRow v) := by rw [h]

/-! ### Commands: a ready frame completes -/

theorem identify_taken (h : CanTake 0x01 p s) : exec (.identify dt p) s
    = .next (settleRow (reply (actIdentify p (closeFrame (after dt s))).2 (actIdentify p (closeFrame (after dt s))).1)) :=
  commandRow_of_canTake _ h

theorem restart_taken (h : CanTake 0x02 p s) : exec (.restart dt p) s
    = .next (settleRow (reply (actRestart p (closeFrame (after dt s))).2 (actRestart p (closeFrame (after dt s))).1)) :=
  commandRow_of_canTake _ h

theorem readConditions_taken (h : CanTake 0x03 p s) : exec (.readConditions dt p) s
    = .next (settleRow (reply (actReadConditions p (closeFrame (after dt s))).2 (actReadConditions p (closeFrame (after dt s))).1)) :=
  commandRow_of_canTake _ h

theorem readStatus_taken (h : CanTake 0x04 p s) : exec (.readStatus dt p) s
    = .next (settleRow (reply (actReadStatus p (closeFrame (after dt s))).2 (actReadStatus p (closeFrame (after dt s))).1)) :=
  commandRow_of_canTake _ h

theorem setReports_taken (h : CanTake 0x05 p s) : exec (.setReports dt p) s
    = .next (settleRow (reply (actSetReports p (closeFrame (after dt s))).2 (actSetReports p (closeFrame (after dt s))).1)) :=
  commandRow_of_canTake _ h

theorem setHead_taken (h : CanTake 0x08 p s) : exec (.setHead dt p) s
    = .next (settleRow (reply (actSetHead p (closeFrame (after dt s))).2 (actSetHead p (closeFrame (after dt s))).1)) :=
  commandRow_of_canTake _ h

theorem setDensity_taken (h : CanTake 0x09 p s) : exec (.setDensity dt p) s
    = .next (settleRow (reply (actSetDensity p (closeFrame (after dt s))).2 (actSetDensity p (closeFrame (after dt s))).1)) :=
  commandRow_of_canTake _ h

theorem printText_taken (h : CanTake 0x0B p s) : exec (.printText dt p) s
    = .next (settleRow (reply (actPrintText p (closeFrame (after dt s))).2 (actPrintText p (closeFrame (after dt s))).1)) :=
  commandRow_of_canTake _ h

theorem setFormat_taken (h : CanTake 0x0C p s) : exec (.setFormat dt p) s
    = .next (settleRow (reply (actSetFormat p (closeFrame (after dt s))).2 (actSetFormat p (closeFrame (after dt s))).1)) :=
  commandRow_of_canTake _ h

theorem saveFormat_taken (h : CanTake 0x0D p s) : exec (.saveFormat dt p) s
    = .next (settleRow (reply (actSaveFormat p (closeFrame (after dt s))).2 (actSaveFormat p (closeFrame (after dt s))).1)) :=
  commandRow_of_canTake _ h

theorem restoreFormat_taken (h : CanTake 0x0E p s) : exec (.restoreFormat dt p) s
    = .next (settleRow (reply (actRestoreFormat p (closeFrame (after dt s))).2 (actRestoreFormat p (closeFrame (after dt s))).1)) :=
  commandRow_of_canTake _ h

theorem feed_taken (h : CanTake 0x0F p s) : exec (.feed dt p) s
    = .next (settleRow (reply (actFeed p (closeFrame (after dt s))).2 (actFeed p (closeFrame (after dt s))).1)) :=
  commandRow_of_canTake _ h

theorem loadGlyph_taken (h : CanTake 0x10 p s) : exec (.loadGlyph dt p) s
    = .next (settleRow (reply (actLoadGlyph p (closeFrame (after dt s))).2 (actLoadGlyph p (closeFrame (after dt s))).1)) :=
  commandRow_of_canTake _ h

theorem setLine_taken (h : CanTake 0x11 p s) : exec (.setLine dt p) s
    = .next (settleRow (reply (actSetLine p (closeFrame (after dt s))).2 (actSetLine p (closeFrame (after dt s))).1)) :=
  commandRow_of_canTake _ h

theorem setCarrier_taken (h : CanTake 0x12 p s) : exec (.setCarrier dt p) s
    = .next (settleRow (reply (actSetCarrier p (closeFrame (after dt s))).2 (actSetCarrier p (closeFrame (after dt s))).1)) :=
  commandRow_of_canTake _ h

theorem connect_taken (h : CanTake 0x13 p s) : exec (.connect dt p) s
    = .next (settleRow (reply (actConnect p (closeFrame (after dt s))).2 (actConnect p (closeFrame (after dt s))).1)) :=
  commandRow_of_canTake _ h

theorem disconnect_taken (h : CanTake 0x14 p s) : exec (.disconnect dt p) s
    = .next (settleRow (reply (actDisconnect p (closeFrame (after dt s))).2 (actDisconnect p (closeFrame (after dt s))).1)) :=
  commandRow_of_canTake _ h

theorem sendBreak_taken (h : CanTake 0x15 p s) : exec (.sendBreak dt p) s
    = .next (settleRow (reply (actBreak p (closeFrame (after dt s))).2 (actBreak p (closeFrame (after dt s))).1)) :=
  commandRow_of_canTake _ h

theorem setLoop_taken (h : CanTake 0x16 p s) : exec (.setLoop dt p) s
    = .next (settleRow (reply (actSetLoop p (closeFrame (after dt s))).2 (actSetLoop p (closeFrame (after dt s))).1)) :=
  commandRow_of_canTake _ h

theorem setKeys_taken (h : CanTake 0x18 p s) : exec (.setKeys dt p) s
    = .next (settleRow (reply (actSetKeys p (closeFrame (after dt s))).2 (actSetKeys p (closeFrame (after dt s))).1)) :=
  commandRow_of_canTake _ h

theorem loadKeymap_taken (h : CanTake 0x19 p s) : exec (.loadKeymap dt p) s
    = .next (settleRow (reply (actLoadKeymap p (closeFrame (after dt s))).2 (actLoadKeymap p (closeFrame (after dt s))).1)) :=
  commandRow_of_canTake _ h

theorem sendText_taken (h : CanTake 0x1A p s) : exec (.sendText dt p) s
    = .next (settleRow (reply (actSendText p (closeFrame (after dt s))).2 (actSendText p (closeFrame (after dt s))).1)) :=
  commandRow_of_canTake _ h

theorem setRoutes_taken (h : CanTake 0x1B p s) : exec (.setRoutes dt p) s
    = .next (settleRow (reply (actSetRoutes p (closeFrame (after dt s))).2 (actSetRoutes p (closeFrame (after dt s))).1)) :=
  commandRow_of_canTake _ h

theorem setFlow_taken (h : CanTake 0x1C p s) : exec (.setFlow dt p) s
    = .next (settleRow (reply (actSetFlow p (closeFrame (after dt s))).2 (actSetFlow p (closeFrame (after dt s))).1)) :=
  commandRow_of_canTake _ h

theorem clearQueue_taken (h : CanTake 0x1D p s) : exec (.clearQueue dt p) s
    = .next (settleRow (reply (actClearQueue p (closeFrame (after dt s))).2 (actClearQueue p (closeFrame (after dt s))).1)) :=
  commandRow_of_canTake _ h

/-! ### Timers: a timer that runs ends -/

theorem gapTimerExpiry_due (h : s.resetting = none) (ht : s.link.gap = some due) :
    exec .gapTimerExpiry s = .next (settleRow (tearFrame (atMoment due s))) :=
  timerRow_due (fun s => s.link.gap) _ h ht

theorem linkFrameEnd_due (h : s.resetting = none) (ht : s.link.tx.map TxFrame.due = some due) :
    exec .linkFrameEnd s = .next (settleRow (endFrame (atMoment due s))) :=
  timerRow_due (fun s => s.link.tx.map TxFrame.due) _ h ht

theorem energizingTimerExpiry_due (h : s.resetting = none) (ht : s.head.energize = some due) :
    exec .energizingTimerExpiry s = .next (settleRow (endEnergizing (atMoment due s))) :=
  timerRow_due (fun s => s.head.energize) _ h ht

theorem holdTimerExpiry_due (h : s.resetting = none) (ht : s.head.hold = some due) :
    exec .holdTimerExpiry s = .next (settleRow (endHold (atMoment due s))) :=
  timerRow_due (fun s => s.head.hold) _ h ht

theorem loadingEnd_due (h : s.resetting = none) (ht : loadDue s = some due) :
    exec .loadingEnd s = .next (settleRow (forPhase endLoading (atMoment due s))) :=
  timerRow_due loadDue _ h ht

theorem pulseEnd_due (h : s.resetting = none) (ht : pulseDue s = some due) :
    exec .pulseEnd s = .next (settleRow (forPhase endPulse (atMoment due s))) :=
  timerRow_due pulseDue _ h ht

theorem stepEnd_due (h : s.resetting = none) (ht : s.head.step = some due) :
    exec .stepEnd s = .next (settleRow (endStep (atMoment due s))) :=
  timerRow_due (fun s => s.head.step) _ h ht

theorem settlePeriodEnd_due (h : s.resetting = none) (ht : s.head.settle = some due) :
    exec .settlePeriodEnd s = .next (settleRow (endSettle (atMoment due s))) :=
  timerRow_due (fun s => s.head.settle) _ h ht

theorem paperPresentTimerExpiry_due (h : s.resetting = none) (ht : s.head.paperTimer = some due) :
    exec .paperPresentTimerExpiry s = .next (settleRow (endPaperTimer (atMoment due s))) :=
  timerRow_due (fun s => s.head.paperTimer) _ h ht

theorem converterReading_due (code : Byte) (h : s.resetting = none) (ht : s.supply.conversion = some due) :
    exec (.converterReading code) s = .next (settleRow (endConversion code (atMoment due s))) :=
  timerRow_due (fun s => s.supply.conversion) _ h ht

theorem lapseTimerExpiry_due (h : s.resetting = none) (ht : s.fmt.lapse = some due) :
    exec .lapseTimerExpiry s = .next (settleRow (endLapse (atMoment due s))) :=
  timerRow_due (fun s => s.fmt.lapse) _ h ht

theorem flushTimerExpiry_due (h : s.resetting = none) (ht : s.fmt.flush = some due) :
    exec .flushTimerExpiry s = .next (settleRow (endFlushTimer (atMoment due s))) :=
  timerRow_due (fun s => s.fmt.flush) _ h ht

theorem breakTimerExpiry_due (h : s.resetting = none) (ht : s.signal.breakTimer = some due) :
    exec .breakTimerExpiry s = .next (settleRow (endBreak (atMoment due s))) :=
  timerRow_due (fun s => s.signal.breakTimer) _ h ht

theorem breakMarkEnd_due (h : s.resetting = none) (ht : s.signal.markTimer = some due) :
    exec .breakMarkEnd s = .next (settleRow (endMark (atMoment due s))) :=
  timerRow_due (fun s => s.signal.markTimer) _ h ht

theorem carrierWindowEnd_due (h : s.resetting = none) (ht : s.monitor.window = some due) :
    exec .carrierWindowEnd s = .next (settleRow (endWindow (atMoment due s))) :=
  timerRow_due (fun s => s.monitor.window) _ h ht

theorem connectTimerExpiry_due (h : s.resetting = none) (ht : s.conn.connectTimer = some due) :
    exec .connectTimerExpiry s = .next (settleRow (endConnectTimer (atMoment due s))) :=
  timerRow_due (fun s => s.conn.connectTimer) _ h ht

theorem settleTimerExpiry_due (h : s.resetting = none) (ht : s.conn.settleTimer = some due) :
    exec .settleTimerExpiry s = .next (settleRow (endSettleTimer (atMoment due s))) :=
  timerRow_due (fun s => s.conn.settleTimer) _ h ht

theorem dropoutTimerExpiry_due (h : s.resetting = none) (ht : s.conn.dropoutTimer = some due) :
    exec .dropoutTimerExpiry s = .next (settleRow (endDropoutTimer (atMoment due s))) :=
  timerRow_due (fun s => s.conn.dropoutTimer) _ h ht

theorem clearingTimerExpiry_due (h : s.resetting = none) (ht : s.conn.clearingTimer = some due) :
    exec .clearingTimerExpiry s = .next (settleRow (enterIdle (atMoment due s))) :=
  timerRow_due (fun s => s.conn.clearingTimer) _ h ht

theorem remoteHoldTimerExpiry_due (h : s.resetting = none) (ht : s.router.remoteTimer = some due) :
    exec .remoteHoldTimerExpiry s = .next (settleRow (endRemoteTimer (atMoment due s))) :=
  timerRow_due (fun s => s.router.remoteTimer) _ h ht

theorem scanReading_due (closed : List Nat) (h : s.resetting = none) (ht : s.keys.slot = some due) :
    exec (.scanReading closed) s = .next (settleRow (scanReading closed (atMoment due s))) :=
  timerRow_due (fun s => s.keys.slot) _ h ht

theorem repeatTimerExpiry_due (h : s.resetting = none) (ht : s.keys.repeatTimer = some due) :
    exec .repeatTimerExpiry s = .next (settleRow (endRepeat (atMoment due s))) :=
  timerRow_due (fun s => s.keys.repeatTimer) _ h ht

theorem beeperEndTime_due (h : s.resetting = none) (ht : s.keys.beeper.map Beep.due = some due) :
    exec .beeperEndTime s = .next (settleRow (endBeep (atMoment due s))) :=
  timerRow_due (fun s => s.keys.beeper.map Beep.due) _ h ht

/-! ### The other events: outside a reset -/

theorem unknownKindFrame_running (kind : Byte) (payload : List Byte) (h : s.resetting = none) : exec (.unknownKindFrame dt kind payload) s = .next (settleRow (rejectUnknown kind payload (after dt s))) :=
  row_running (fun s => rejectUnknown kind payload (after dt s)) h

theorem strayByte_running (byte : Byte) (h : s.resetting = none) : exec (.strayByte dt byte) s = .next (settleRow (countStray byte (after dt s))) :=
  row_running (fun s => countStray byte (after dt s)) h

theorem leadByte_running (h : s.resetting = none) : exec (.leadByte dt) s = .next (settleRow (openFrame (after dt s))) :=
  row_running (fun s => openFrame (after dt s)) h

theorem lengthByteAbove40_running (byte : Byte) (h : s.resetting = none) : exec (.lengthByteAbove40 dt byte) s = .next (settleRow (longLength byte (after dt s))) :=
  row_running (fun s => longLength byte (after dt s)) h

theorem unreadyFrame_running (h : s.resetting = none) : exec (.unreadyFrame dt) s = .next (settleRow (endUnready (after dt s))) :=
  row_running (fun s => endUnready (after dt s)) h

theorem formatterTakeItem_running (h : s.resetting = none) : exec .formatterTakeItem s = .next (settleRow (formatterTake s)) :=
  row_running _ h

theorem drainCommit_running (h : s.resetting = none) : exec .drainCommit s = .next (settleRow (drainCommit s)) :=
  row_running _ h

theorem formFeedEntryAppend_running (h : s.resetting = none) : exec .formFeedEntryAppend s = .next (settleRow (formFeedAppend s)) :=
  row_running _ h

theorem feedEntryAppend_running (h : s.resetting = none) : exec .feedEntryAppend s = .next (settleRow (feedAppend s)) :=
  row_running _ h

theorem halfPeriodEnd_running (h : s.resetting = none) : exec (.halfPeriodEnd dt) s = .next (settleRow (inputCrossing dt s)) :=
  row_running (inputCrossing dt) h

theorem characterFinished_running (h : s.resetting = none) : exec .characterFinished s = .next (settleRow (characterFinished s)) :=
  row_running _ h

theorem breakWatchEnd_running (h : s.resetting = none) : exec .breakWatchEnd s = .next (settleRow (breakWatchEnd s)) :=
  row_running _ h

theorem framerTake_running (h : s.resetting = none) : exec .framerTake s = .next (settleRow (framerTake s)) :=
  row_running _ h

theorem framerCharacterEnd_running (h : s.resetting = none) : exec .framerCharacterEnd s = .next (settleRow (framerCharacterEnd s)) :=
  row_running _ h

theorem routerTake_running (source : Source) (h : s.resetting = none) : exec (.routerTake source) s = .next (settleRow (takeIfReady source s)) :=
  row_running _ h

theorem cellCentre_running (h : s.resetting = none) : exec .cellCentre s = .next (settleRow (centreReached s)) :=
  row_running _ h

theorem cellBoundary_running (h : s.resetting = none) : exec .cellBoundary s = .next (settleRow (cellBoundary s)) :=
  row_running _ h

theorem frameByteReceived_running (byte : Byte) (h : s.resetting = none) : exec (.frameByteReceived dt byte) s = .next (settleRow (collectByte byte (after dt s))) :=
  row_running (fun s => collectByte byte (after dt s)) h

theorem wrongCheckByte_running (kind : Byte) (payload : List Byte) (check : Byte) (h : s.resetting = none) : exec (.wrongCheckByte dt kind payload check) s = .next (settleRow (rejectCheck kind payload check (after dt s))) :=
  row_running (fun s => rejectCheck kind payload check (after dt s)) h

theorem paperSensorChange_running (h : s.resetting = none) :
    exec (.paperSensorChange dt) s = .next (settleRow (changePaper (after dt s))) := by
  simp [exec, execPaperSensorChange, h, row_running]

theorem paperSensorChange_held (h : s.resetting ≠ none) :
    exec (.paperSensorChange dt) s = .next (flipPaper (after dt s)) := by
  cases hr : s.resetting <;> simp_all [exec, execPaperSensorChange]

theorem resetEnd_held {cause : Cause} (h : s.resetting = some cause) :
    exec (.resetEnd dt) s = .next (settleRow (endReset cause (resetMoment dt s))) := by
  simp [exec, execResetEnd, h]

end Sys2Proof.Laws
end

