-- ==== Sys2Proof/Laws/Frames.lean ====
section
/-!
SUPPORT. What each shared operation can touch: the operation's result is the state it was given with new values in the
fields named, and in no other.
-/

namespace Sys2Proof.Laws

open Sys2Proof.Machine

variable (s : State)

/-- The Keyboard Scanner with another state of the beeper. -/
def keysBeeping (b : Option Beep) (k : Keys) : Keys := { k with beeper := b }

/-- The Keyboard Scanner with another key queue and another state of the beeper. -/
def keysTaken (q : List KeyChar) (b : Option Beep) (k : Keys) : Keys := { k with queue := q, beeper := b }

/-! ### The Head Driver: it touches itself, the Supply Monitor and the link -/

theorem enterPaused_touches (r : Reasons) : ∃ h, enterPaused r s = { s with head := h } := ⟨_, rfl⟩

theorem loadPhase_touches (r : BurnRow) (n : Nat) (f : Figures) : ∃ h, loadPhase r n f s = { s with head := h } := ⟨_, rfl⟩

theorem judgeStarved_touches (b : Bool) : ∃ u k, judgeStarved b s = { s with supply := u, link := k } := ⟨_, _, rfl⟩

theorem phaseStart_touches (cfg : HeadConfig) (r : BurnRow) :
    ∃ h u k, phaseStart cfg r s = { s with head := h, supply := u, link := k } := by
  simp only [phaseStart]
  split
  · split <;> exact ⟨_, _, _, rfl⟩
  · exact ⟨_, s.supply, s.link, rfl⟩

theorem stepStart_touches (b : Bool) : ∃ h u k, stepStart b s = { s with head := h, supply := u, link := k } := by
  simp only [stepStart]
  split
  · split <;> exact ⟨_, _, _, rfl⟩
  · exact ⟨_, s.supply, s.link, rfl⟩

theorem proceed_touches : ∃ h u k, proceed s = { s with head := h, supply := u, link := k } := by
  unfold proceed
  split
  · split
    · split
      · exact ⟨_, s.supply, s.link, rfl⟩
      · split
        · obtain ⟨h, u, k, e⟩ := phaseStart_touches _ _ _
          exact ⟨h, u, k, e⟩
        · exact ⟨s.head, s.supply, s.link, rfl⟩
    · obtain ⟨h, u, k, e⟩ := stepStart_touches _ _
      exact ⟨h, u, k, e⟩
  · obtain ⟨h, u, k, e⟩ := stepStart_touches _ _
    exact ⟨h, u, k, e⟩
  · exact ⟨s.head, s.supply, s.link, rfl⟩

theorem approach_touches : ∃ h u k, approach s = { s with head := h, supply := u, link := k } := by
  unfold approach
  split
  · exact ⟨_, s.supply, s.link, rfl⟩
  · exact proceed_touches s

theorem beginRow_touches : ∃ h u k, beginRow s = { s with head := h, supply := u, link := k } := by
  unfold beginRow
  split
  · exact ⟨s.head, s.supply, s.link, rfl⟩
  · obtain ⟨h, u, k, e⟩ := approach_touches _
    exact ⟨h, u, k, e⟩

theorem endRow_touches : ∃ h u k, endRow s = { s with head := h, supply := u, link := k } := by
  unfold endRow
  split
  · exact ⟨_, s.supply, s.link, rfl⟩
  · obtain ⟨h, u, k, e⟩ := beginRow_touches _
    exact ⟨h, u, k, e⟩

/-- R3: appended entries touch the driver, and through a start the Supply Monitor and the latches. -/
theorem appendEntries_touches (es : List RowEntry) :
    ∃ h u k, appendEntries es s = { s with head := h, supply := u, link := k } := by
  simp only [appendEntries]
  split
  · obtain ⟨h, u, k, e⟩ := beginRow_touches _
    exact ⟨h, u, k, e⟩
  · exact ⟨_, s.supply, s.link, rfl⟩

theorem removeReasons_touches (r : Reasons) :
    ∃ h u k, removeReasons r s = { s with head := h, supply := u, link := k } := by
  unfold removeReasons
  split
  · dsimp only
    split
    · obtain ⟨h, u, k, e⟩ := approach_touches _
      exact ⟨h, u, k, e⟩
    · exact ⟨_, s.supply, s.link, rfl⟩
  · exact ⟨s.head, s.supply, s.link, rfl⟩

theorem rejudge_touches : ∃ u k, rejudge s = { s with supply := u, link := k } := by
  unfold rejudge
  split
  · split
    · exact ⟨_, _, rfl⟩
    · split
      · exact ⟨_, _, rfl⟩
      · exact ⟨s.supply, s.link, rfl⟩
  · exact ⟨s.supply, s.link, rfl⟩

theorem retryStart_touches : ∃ h u k, retryStart s = { s with head := h, supply := u, link := k } := by
  unfold retryStart
  split
  · exact proceed_touches s
  · exact ⟨s.head, s.supply, s.link, rfl⟩

/-- R24: a conversion touches the Supply Monitor, the driver and the latches. -/
theorem endConversion_touches (code : Byte) :
    ∃ h u k, endConversion code s = { s with head := h, supply := u, link := k } := by
  unfold endConversion afterBattery afterTemp
  dsimp only
  split
  · obtain ⟨u1, k1, e1⟩ := rejudge_touches (readBattery code { s with supply :=
      { s.supply with channel := s.supply.channel.next, conversion := some (s.now + Config.conversionTime) } })
    obtain ⟨h2, u2, k2, e2⟩ := removeReasons_touches _ _
    obtain ⟨h3, u3, k3, e3⟩ := retryStart_touches _
    rw [e3, e2, e1]
    exact ⟨h3, u3, k3, rfl⟩
  · obtain ⟨h2, u2, k2, e2⟩ := removeReasons_touches _ _
    obtain ⟨h3, u3, k3, e3⟩ := retryStart_touches _
    rw [e3, e2]
    exact ⟨h3, u3, k3, rfl⟩
  · exact ⟨s.head, _, s.link, rfl⟩

/-! ### The Print Formatter -/

theorem commitOldest_touches :
    ∃ f h u k, commitOldest s = { s with fmt := f, head := h, supply := u, link := k } := by
  unfold commitOldest
  split
  · exact ⟨s.fmt, s.head, s.supply, s.link, rfl⟩
  · obtain ⟨h, u, k, e⟩ := appendEntries_touches _ _
    exact ⟨_, h, u, k, e⟩

/-- R61: a line advance touches the formatter, and what its commit touches. -/
theorem lineAdvance_touches :
    ∃ f h u k, lineAdvance s = { s with fmt := f, head := h, supply := u, link := k } := by
  unfold lineAdvance
  split
  · exact ⟨_, s.head, s.supply, s.link, rfl⟩
  · split
    · exact ⟨_, s.head, s.supply, s.link, rfl⟩
    · split
      · exact ⟨_, s.head, s.supply, s.link, rfl⟩
      · obtain ⟨f, h, u, k, e⟩ := commitOldest_touches s
        rw [e]
        exact ⟨_, h, u, k, rfl⟩

theorem newLine_touches : ∃ f h u k, newLine s = { s with fmt := f, head := h, supply := u, link := k } := by
  obtain ⟨f, h, u, k, e⟩ := lineAdvance_touches (carriageReturn s)
  exact ⟨f, h, u, k, e⟩

theorem putPrintable_touches (c : Byte) :
    ∃ f h u k, putPrintable c s = { s with fmt := f, head := h, supply := u, link := k } := by
  simp only [putPrintable, makeFit]
  split
  · exact ⟨_, s.head, s.supply, s.link, rfl⟩
  · split
    · obtain ⟨f, h, u, k, e⟩ := newLine_touches s
      rw [e]
      exact ⟨_, h, u, k, rfl⟩
    · exact ⟨_, s.head, s.supply, s.link, rfl⟩

/-- R55 to R68: a character touches the formatter, what a commit touches, and the beeper. -/
theorem carryChar_touches (c : Byte) :
    ∃ f h u k b, carryChar c s
      = { s with fmt := f, head := h, supply := u, link := k, keys := keysBeeping b s.keys } := by
  have plain : ∀ f : Formatter, ∃ f' h u k b, ({ s with fmt := f } : State)
      = { s with fmt := f', head := h, supply := u, link := k, keys := keysBeeping b s.keys } := fun f =>
    ⟨f, s.head, s.supply, s.link, s.keys.beeper, rfl⟩
  have line : ∀ t : State, (∃ f h u k, t = { s with fmt := f, head := h, supply := u, link := k }) →
      ∃ f h u k b, t = { s with fmt := f, head := h, supply := u, link := k, keys := keysBeeping b s.keys } :=
    fun t ⟨f, h, u, k, e⟩ => ⟨f, h, u, k, s.keys.beeper, e⟩
  unfold carryChar
  by_cases h1 : isPrintable c = true
  · rw [if_pos h1]; exact line _ (putPrintable_touches s c)
  rw [if_neg h1]
  by_cases h2 : c = 0x0D
  · rw [if_pos h2]; exact plain _
  rw [if_neg h2]
  by_cases h3 : c = 0x0A
  · rw [if_pos h3]; exact line _ (lineAdvance_touches s)
  rw [if_neg h3]
  by_cases h4 : c = 0x1E
  · rw [if_pos h4]; exact line _ (newLine_touches s)
  rw [if_neg h4]
  by_cases h5 : c = 0x0B
  · rw [if_pos h5]
    unfold verticalTab
    split
    · exact ⟨s.fmt, s.head, s.supply, _, s.keys.beeper, rfl⟩
    · exact plain _
  rw [if_neg h5]
  by_cases h6 : c = 0x08
  · rw [if_pos h6]; exact plain _
  rw [if_neg h6]
  by_cases h7 : c = 0x09
  · rw [if_pos h7]; exact plain _
  rw [if_neg h7]
  by_cases h8 : c = 0x0C
  · rw [if_pos h8]
    unfold formFeed
    split
    · exact line _ (newLine_touches s)
    · exact plain _
  rw [if_neg h8]
  by_cases h9 : c = 0x07
  · rw [if_pos h9]; exact ⟨s.fmt, s.head, s.supply, s.link, _, rfl⟩
  rw [if_neg h9]
  by_cases h10 : c = 0x0E
  · rw [if_pos h10]; exact plain _
  rw [if_neg h10]
  by_cases h11 : c = 0x0F
  · rw [if_pos h11]; exact plain _
  rw [if_neg h11]
  by_cases h12 : c = 0x12
  · rw [if_pos h12]; exact plain _
  rw [if_neg h12]
  by_cases h13 : c = 0x1D
  · rw [if_pos h13]; exact plain _
  rw [if_neg h13]
  exact plain s.fmt

theorem carryDirective_touches (d : Directive) :
    ∃ f k, carryDirective d s = { s with fmt := f, link := k } := by
  unfold carryDirective
  split
  · exact ⟨_, s.link, rfl⟩
  · exact ⟨_, s.link, rfl⟩
  · unfold restoreFormat
    split
    · exact ⟨s.fmt, _, rfl⟩
    · exact ⟨_, s.link, rfl⟩
  · exact ⟨_, s.link, rfl⟩

/-- R46: an item touches the formatter, what a commit touches, and the beeper. -/
theorem takeItem_touches (o : Owner) (it : Item) :
    ∃ f h u k b, takeItem o it s
      = { s with fmt := f, head := h, supply := u, link := k, keys := keysBeeping b s.keys } := by
  cases it with
  | char c =>
    obtain ⟨f, h, u, k, b, e⟩ := carryChar_touches
      { s with fmt := { s.fmt with owner := o, activity := .ready } } c
    simp only [takeItem, e]
    exact ⟨_, h, u, k, b, rfl⟩
  | directive d =>
    obtain ⟨f, k, e⟩ := carryDirective_touches
      { s with fmt := { s.fmt with owner := o, activity := .ready } } d
    simp only [takeItem, e]
    exact ⟨_, s.head, s.supply, k, s.keys.beeper, rfl⟩

theorem checkPtqRoom_touches :
    ∃ w k, checkPtqRoom s = { s with fmt := { s.fmt with ptqWanted := w }, link := k } := by
  unfold checkPtqRoom
  split
  · exact ⟨_, _, rfl⟩
  · exact ⟨s.fmt.ptqWanted, s.link, rfl⟩

theorem takePtq_touches :
    ∃ f h u k b, takePtq s
      = { s with fmt := f, head := h, supply := u, link := k, keys := keysBeeping b s.keys } := by
  unfold takePtq
  split
  · exact ⟨s.fmt, s.head, s.supply, s.link, s.keys.beeper, rfl⟩
  · obtain ⟨w, k1, e1⟩ := checkPtqRoom_touches { s with fmt := { s.fmt with ptq := _ } }
    rw [e1]
    obtain ⟨f, h, u, k, b, e⟩ := takeItem_touches _ _ _
    exact ⟨f, h, u, k, b, e⟩

theorem takeKeyFeed_touches :
    ∃ f h u k b, takeKeyFeed s
      = { s with fmt := f, head := h, supply := u, link := k, keys := keysBeeping b s.keys } := by
  obtain ⟨f, h, u, k, b, e⟩ := takeItem_touches { s with fmt := { s.fmt with keyFeed := false } } .key (.char 0x0A)
  exact ⟨f, h, u, k, b, e⟩

/-! ### The Traffic Router -/

/-- R170, R171: a judgement of local hold touches the local hold state, the flow slot and the LINE STATE flag. -/
theorem judgeHold_touches :
    ∃ h f k, judgeHold s = { s with router := { s.router with holdSent := h, slot := f }, link := k } := by
  unfold judgeHold
  split
  · exact ⟨_, _, _, rfl⟩
  · split
    · exact ⟨_, _, _, rfl⟩
    · exact ⟨s.router.holdSent, s.router.slot, s.link, rfl⟩

theorem grant_touches :
    ∃ o l, grant s = { s with fmt := { s.fmt with owner := o, lapse := l } } := by
  unfold grant
  split
  · exact ⟨_, _, rfl⟩
  · exact ⟨s.fmt.owner, s.fmt.lapse, rfl⟩

theorem beginStall_touches :
    ∃ a l f, beginStall s = { s with fmt := { s.fmt with activity := a, lapse := l, flush := f } } := by
  unfold beginStall
  split
  · split
    · exact ⟨s.fmt.activity, s.fmt.lapse, s.fmt.flush, rfl⟩
    · split
      · exact ⟨s.fmt.activity, s.fmt.lapse, s.fmt.flush, rfl⟩
      · exact ⟨_, _, _, rfl⟩
  · exact ⟨s.fmt.activity, s.fmt.lapse, s.fmt.flush, rfl⟩

theorem removeHead_touches (src : Source) :
    ∃ r k q, removeHead src s = { s with router := r, link := k, keys := { s.keys with queue := q } } := by
  cases src
  · obtain ⟨h, f, k, e⟩ := judgeHold_touches { s with router := { s.router with store := s.router.store.tail } }
    exact ⟨_, k, s.keys.queue, e⟩
  · exact ⟨s.router, s.link, _, rfl⟩
  · simp only [removeHead, checkStqRoom]
    split <;> exact ⟨_, _, s.keys.queue, rfl⟩

/-- R158: a take touches the Router, the link's flags, the key queue, and what an item touches. -/
theorem takeSource_touches (src : Source) :
    ∃ r f h u k q b, takeSource src s
      = { s with router := r, fmt := f, head := h, supply := u, link := k,
                 keys := keysTaken q b s.keys } := by
  simp only [takeSource]
  split
  · exact ⟨s.router, s.fmt, s.head, s.supply, s.link, s.keys.queue, s.keys.beeper, rfl⟩
  · obtain ⟨r1, k1, q1, e1⟩ := removeHead_touches s src
    simp only [deliverQueues, e1]
    split
    · obtain ⟨f, h, u, k, b, e⟩ := takeItem_touches _ _ _
      exact ⟨_, f, h, u, k, q1, b, e⟩
    · exact ⟨_, s.fmt, s.head, s.supply, k1, q1, s.keys.beeper, rfl⟩

theorem takeOwned_touches :
    ∃ r f h u k q b, takeOwned s
      = { s with router := r, fmt := f, head := h, supply := u, link := k,
                 keys := keysTaken q b s.keys } := by
  unfold takeOwned
  split
  · exact ⟨s.router, s.fmt, s.head, s.supply, s.link, s.keys.queue, s.keys.beeper, rfl⟩
  · exact takeSource_touches s _
  · split
    · obtain ⟨f, h, u, k, b, e⟩ := takeKeyFeed_touches s
      exact ⟨s.router, f, h, u, k, s.keys.queue, b, e⟩
    · exact takeSource_touches s _
  · exact takeSource_touches s _
  · obtain ⟨f, h, u, k, b, e⟩ := takePtq_touches s
    exact ⟨s.router, f, h, u, k, s.keys.queue, b, e⟩

theorem endStall_touches :
    ∃ r f h u k q b, endStall s
      = { s with router := r, fmt := f, head := h, supply := u, link := k,
                 keys := keysTaken q b s.keys } := by
  unfold endStall
  split
  · split
    · exact ⟨s.router, _, s.head, s.supply, s.link, s.keys.queue, s.keys.beeper, rfl⟩
    · split
      · split
        · exact takeOwned_touches s
        · exact ⟨s.router, s.fmt, s.head, s.supply, s.link, s.keys.queue, s.keys.beeper, rfl⟩
      · exact ⟨s.router, _, s.head, s.supply, s.link, s.keys.queue, s.keys.beeper, rfl⟩
  · exact ⟨s.router, s.fmt, s.head, s.supply, s.link, s.keys.queue, s.keys.beeper, rfl⟩

theorem judgeFormatter_touches :
    ∃ r f h u k q b, judgeFormatter s
      = { s with router := r, fmt := f, head := h, supply := u, link := k,
                 keys := keysTaken q b s.keys } := by
  obtain ⟨r, f, h, u, k, q, b, e1⟩ := endStall_touches s
  obtain ⟨o, l, e2⟩ := grant_touches (endStall s)
  obtain ⟨a, l', f', e3⟩ := beginStall_touches (grant (endStall s))
  refine ⟨r, { f with owner := o, lapse := l', activity := a, flush := f' }, h, u, k, q, b, ?_⟩
  unfold judgeFormatter
  rw [e3, e2, e1]

/-! ### The link transmitter -/

/-- R183, R185: the arbiter touches the link and the two queues of the data reports. -/
theorem kickLink_touches :
    ∃ k rx kd, kickLink s = { s with link := k, router := { s.router with rxData := rx, keyData := kd } } := by
  unfold kickLink
  split
  · exact ⟨s.link, s.router.rxData, s.router.keyData, rfl⟩
  · split
    · unfold sendReply
      split <;> exact ⟨_, s.router.rxData, s.router.keyData, rfl⟩
    · unfold sendReport
      split
      · exact ⟨_, s.router.rxData, s.router.keyData, rfl⟩
      split
      · exact ⟨_, s.router.rxData, s.router.keyData, rfl⟩
      split
      · exact ⟨_, _, s.router.keyData, rfl⟩
      split
      · exact ⟨_, s.router.rxData, _, rfl⟩
      split
      · exact ⟨_, s.router.rxData, s.router.keyData, rfl⟩
      · exact ⟨s.link, s.router.rxData, s.router.keyData, rfl⟩

/-- The end of a row touches the blocks a take or a frame can touch, and the Tone Generator. -/
theorem settleRow_touches :
    ∃ g r f h u k q b, settleRow s
      = { s with tone := g, router := r, fmt := f, head := h, supply := u, link := k,
                 keys := keysTaken q b s.keys } := by
  obtain ⟨r1, f1, h1, u1, k1, q1, b1, e1⟩ := judgeFormatter_touches (settleTone s)
  obtain ⟨k2, rx, kd, e2⟩ := kickLink_touches (judgeFormatter (settleTone s))
  obtain ⟨r3, f3, h3, u3, k3, q3, b3, e3⟩ := judgeFormatter_touches (kickLink (judgeFormatter (settleTone s)))
  refine ⟨(settleTone s).tone, r3, f3, h3, u3, k3, q3, b3, ?_⟩
  unfold settleRow
  rw [e3, e2, e1]
  rfl

/-! ### The line and the connection -/

/-- R130: a change of connect state touches the connection, the signal path, the local hold state and the LINE STATE flag. -/
theorem changeConn_touches (new : Conn) :
    ∃ g h f k, changeConn new s
      = { s with conn := new, signal := g, router := { s.router with holdSent := h, slot := f }, link := k } := by
  simp only [changeConn]
  split
  · obtain ⟨h, f, k, e⟩ := judgeHold_touches
      { s with conn := new, signal := s.signal.onChange s.conn new, link := s.link.pendLine }
    exact ⟨_, h, f, k, e⟩
  · exact ⟨_, s.router.holdSent, s.router.slot, _, rfl⟩

/-- R160: an arriving character touches the Router and the link. -/
theorem arrive_touches (c : RxChar) : ∃ r k, arrive c s = { s with router := r, link := k } := by
  unfold arrive
  split
  · unfold consumeFlow
    split
    · exact ⟨_, _, rfl⟩
    · exact ⟨_, _, rfl⟩
  · unfold storeChar
    split
    · obtain ⟨h, f, k, e⟩ := judgeHold_touches _
      exact ⟨_, k, e⟩
    · exact ⟨_, _, rfl⟩

/-- R129, R174: an entry to IDLE touches the connection, the signal path, the monitor, the Router and the link. -/
theorem enterIdle_touches :
    ∃ c g m r k, enterIdle s = { s with conn := c, signal := g, monitor := m, router := r, link := k } := by
  obtain ⟨g, h, f, k, e⟩ := changeConn_touches { s with monitor := monitorAfterTest s } (s.conn.to .idle .normal)
  unfold enterIdle
  rw [e]
  exact ⟨_, _, _, _, _, rfl⟩

end Sys2Proof.Laws
end

