-- ==== Sys2Proof/Laws/Shared.lean ====
section
/-!
SUPPORT. What the latches, the line told to the Link Port, the channels, a finished character and an entry to IDLE come to, in
the terms the statements use; that the driver does not look at the formatter, and when there is room in the row queue.
-/

namespace Sys2Proof.Laws

open Sys2Proof.Machine Sys2Proof.Safety

/-- R191: setting a latch sets it and leaves the others. -/
theorem isSet_setLatch (k : LinkPort) (l l' : Latch) :
    (k.setLatch l).isSet l' = (k.isSet l' || decide (l = l')) := by
  by_cases h : k.isSet l = true
  · simp only [LinkPort.setLatch, if_pos h]; by_cases e : l = l' <;> simp_all
  · simp only [LinkPort.setLatch, if_neg h]; cases l <;> cases l' <;> simp_all [LinkPort.isSet, Latch.bit]

/-- R191: a latch already set stays set and nothing else changes. -/
theorem setLatch_of_isSet (k : LinkPort) (l : Latch) (h : k.isSet l = true) : k.setLatch l = k := if_pos h

theorem pendLine_eq_told (k : LinkPort) : k.pendLine = told k := rfl

theorem told_told (k : LinkPort) : told (told k) = told k := by
  simp only [told]; cases k.pendLineState <;> cases k.mask.lineState <;> rfl

theorem listenChannel_eq (s : State) : listenChannel s.conn = if listensLow s then .low else .high := by
  by_cases e1 : s.conn.state = .test <;> by_cases e2 : s.conn.loop = .localTone <;> cases e3 : s.conn.role <;>
    simp [listenChannel, listensLow, inLocalTone, e1, e2, e3]

theorem finishChar_eq (c : RxChar) (sp : Bool) (s : State) : finishChar c sp s = finished c sp s := by
  have : isReceived sp s = (!sp && unmuted s) := by
    simp only [isReceived, unmuted, inLocalTone]; cases sp <;> simp
  simp only [finishChar, finished, this]; rfl

theorem frameCells_eq (f : LineFormat) : frameCells f = cellTotal f := rfl

theorem cellTimes_eq (v : Speed) : cellTimes v = (v.bitTime, v.halfBit) := by cases v <;> rfl

theorem linePresent_eq (s : State) : linePresent s.conn = decide (OpenCall s ∨ s.conn.state = .test) := by
  simp only [linePresent, OpenCall]; split <;> simp_all

/-- R130: a change to a state other than ONLINE and FADE judges no local hold. -/
theorem changeConn_closed (new : Conn) (s : State) (h : breakAllowed new = false) :
    changeConn new s = { s with conn := new, signal := s.signal.onChange s.conn new, link := told s.link } := by
  simp [changeConn, h, pendLine_eq_told]

/-- R129, R174: an entry to IDLE. -/
theorem enterIdle_eq_idled (s : State) : enterIdle s = idled s := by
  have h : changeConn (s.conn.to .idle .normal) { s with monitor := monitorAfterTest s } = _ :=
    changeConn_closed _ _ rfl
  simp only [enterIdle, h]
  rcases s with ⟨now, pend, rs, re, link, sup, head, fmt, form, tone, sig, mon, conn, rt, keys⟩
  rcases conn with ⟨st, loop, role, t1, t2, t3, t4⟩
  rcases sig with ⟨cr, lm, df, fr, bt, mt, rc2, mu⟩
  rcases rt with ⟨r1, r2, r3, store, tx, slot, stq, sw, rxd, kd, fo, hc, rc, ht, hs, rh, rtm, pa, pe, fe, ov, di, ec⟩
  cases fr <;> cases st <;>
    simp [cutFramer, routerIdle, idled, clearRemoteHeld, monitorAfterTest, fromCall, Conn.to, Signal.onChange, spoils,
      inLocalTone, breakAllowed, pendLine_eq_told, told_told, countUp, countUpBy, Config.counterMax]
  all_goals cases hs <;> cases rh <;> first | rfl | omega

/-! ### The driver does not look at the formatter -/

theorem stepStart_fmt (b : Bool) (f : Formatter) (s : State) :
    stepStart b { s with fmt := f } = { stepStart b s with fmt := f } := by
  have e : stepRefusal { s with fmt := f } = stepRefusal s := rfl
  cases v : s.supply.battery.valid <;> cases w : (stepRefusal s).any <;> simp only [stepStart, v, e, w] <;> rfl

theorem phaseStart_fmt (c : HeadConfig) (r : BurnRow) (f : Formatter) (s : State) :
    phaseStart c r { s with fmt := f } = { phaseStart c r s with fmt := f } := by
  have e : boostAtStart r { s with fmt := f } = boostAtStart r s := rfl
  have e1 : figures c (boostAtStart r s) { s with fmt := f } = figures c (boostAtStart r s) s := rfl
  have e2 (n : Nat) : phaseRefusal n { s with fmt := f } = phaseRefusal n s := rfl
  cases v : (s.supply.battery.valid && s.supply.temp.valid) <;>
    cases w : (phaseRefusal (figures c (boostAtStart r s) s).limit s).any <;>
    simp only [phaseStart, v, e, e1, e2, w] <;> rfl

theorem proceed_fmt (f : Formatter) (s : State) : proceed { s with fmt := f } = { proceed s with fmt := f } := by
  rcases e : s.head.row with _ | r | ⟨c, l⟩
  · simp only [proceed, e]
  · rcases n : r.next with _ | _
    · rcases v : (r.hot.isNone && s.head.settle.isSome) with _ | _
      · rcases c : s.head.config with _ | cfg <;> simp only [proceed, e, n, c, v, Bool.false_eq_true, if_false]
        exact phaseStart_fmt cfg r f { s with head := { s.head with
          config := some cfg, row := some (.burn r), state := .burning, reasons := .none, hold := none } }
      · simp only [proceed, e, n, v, if_true]
    · simp only [proceed, e, n]
      exact stepStart_fmt false f { s with head := { s.head with row := some (.burn r), hold := none } }
  · simp only [proceed, e]
    exact stepStart_fmt true f { s with head := { s.head with row := some (.feed c l), hold := none } }

theorem approach_fmt (f : Formatter) (s : State) : approach { s with fmt := f } = { approach s with fmt := f } := by
  by_cases h : s.head.motor = .released
  · simp only [approach, h, if_true]; rfl
  · simp only [approach, h, if_false]; exact proceed_fmt _ _

/-- R3: what the entries do is the same whatever the formatter holds. -/
theorem appendEntries_fmt (es : List RowEntry) (f : Formatter) (s : State) :
    appendEntries es { s with fmt := f } = { appendEntries es s with fmt := f } := by
  by_cases h : s.head.state = .idle ∧ s.head.waiting = false
  · have h1 : appendEntries es s = beginRow { s with head := { s.head with queue := s.head.queue ++ es } } := if_pos h
    have h2 : appendEntries es { s with fmt := f }
        = beginRow { s with fmt := f, head := { s.head with queue := s.head.queue ++ es } } := if_pos h
    rw [h1, h2]
    rcases e : s.head.queue ++ es with _ | ⟨r, rest⟩ <;> simp only [beginRow]
    exact approach_fmt f { s with head := { s.head with queue := rest, row := some r.record } }
  · simp only [appendEntries, h, if_false]

/-! ### Room in the row queue (R47, R69) -/

/-- R47: the room an item needs is there when it needs none, or when 12 entries are free. -/
theorem hasRoom_iff (it : Item) (s : State) :
    hasRoom it s = true ↔ s.fmt.needsRoom it = false ∨ s.head.queue.length + 12 ≤ 32 := by
  have room : Config.commitRoom ≤ rowsFree s ↔ s.head.queue.length + 12 ≤ 32 := by
    show 12 ≤ 32 - s.head.queue.length ↔ _
    omega
  simp [hasRoom, room]

/-- R69, R70: a drain may commit when 12 entries are free, or a continuation line is the oldest. -/
theorem mayCommit_iff (s : State) :
    mayCommit s = true ↔ s.head.queue.length + 12 ≤ 32 ∨ (s.fmt.window.head?.map Line.continuation).getD false = true := by
  have room : Config.commitRoom ≤ rowsFree s ↔ s.head.queue.length + 12 ≤ 32 := by
    show 12 ≤ 32 - s.head.queue.length ↔ _
    omega
  simp [mayCommit, room]

end Sys2Proof.Laws
end

