-- ==== Sys2Proof/Laws/Tones.lean ====
section
/-!
SUPPORT. What the next zero crossing of the part's own wave is, said once (R94, R99, log 17).
-/

namespace Sys2Proof.Laws

open Sys2Proof.Machine Sys2Proof.Safety

/-- R93, R94: each tone's cycle is a whole number of the parts in which crossings are told. -/
theorem slowness_mul (g : ToneGen) (h : g.output ≠ .silent) :
    toneHertz g.channel g.output * g.slowness = 15739360 ∧ 0 < g.slowness ∧ 0 < toneHertz g.channel g.output := by
  obtain ⟨out, ch, p, t⟩ := g
  cases out <;> cases ch <;> first | exact absurd rfl h | norm_num [ToneGen.slowness, toneHertz, Config.waveParts]

/-- R94: the crossings of a wave, one for each half cycle it has turned. -/
theorem waveCrosses_iff (g : ToneGen) (h : g.output ≠ .silent) (t : Nat) :
    WaveCrosses g t ↔ ∃ n, g.phase ≤ 500000 * n ∧ t = g.since * 15739360 + (500000 * n - g.phase) * g.slowness := by
  obtain ⟨hw, hk, hz⟩ := slowness_mul g h
  constructor
  · rintro ⟨hle, n, hn, he⟩
    refine ⟨n, hn, ?_⟩
    have : (t - g.since * 15739360) * toneHertz g.channel g.output
        = ((500000 * n - g.phase) * g.slowness) * toneHertz g.channel g.output := by
      rw [he, ← hw]; ring
    rw [← Nat.eq_of_mul_eq_mul_right hz this]
    exact (Nat.add_sub_cancel' hle).symm
  · rintro ⟨n, hn, rfl⟩
    refine ⟨Nat.le_add_right _ _, n, hn, ?_⟩
    rw [Nat.add_sub_cancel_left, ← hw]; ring

/-- R94, R99: the next crossing is the first crossing of the wave after the last one. -/
theorem nextCrossing_first (g : ToneGen) (last : Option Nat) (h : g.output ≠ .silent) :
    FirstCrossing g last (g.nextCrossing last) := by
  obtain ⟨-, hk, -⟩ := slowness_mul g h
  have key : ∀ n base, g.phase ≤ 500000 * n → base < g.since * 15739360 + (500000 * n - g.phase) * g.slowness →
      (∀ m, g.phase ≤ 500000 * m → base < g.since * 15739360 + (500000 * m - g.phase) * g.slowness → n ≤ m) →
      WaveCrosses g (g.since * 15739360 + (n * 500000 - g.phase) * g.slowness)
        ∧ base < g.since * 15739360 + (n * 500000 - g.phase) * g.slowness
        ∧ ∀ u, WaveCrosses g u → base < u → g.since * 15739360 + (n * 500000 - g.phase) * g.slowness ≤ u := by
    intro n base hn hb hm
    rw [Nat.mul_comm n]
    refine ⟨(waveCrosses_iff g h _).2 ⟨n, hn, rfl⟩, hb, ?_⟩
    intro u hu hbu
    obtain ⟨m, hpm, rfl⟩ := (waveCrosses_iff g h u).1 hu
    have := hm m hpm hbu
    exact Nat.add_le_add_left (Nat.mul_le_mul_right _ (by omega)) _
  unfold FirstCrossing ToneGen.nextCrossing
  cases last with
  | none =>
    simp only [Option.getD_none, Config.waveParts]
    refine key _ _ (by omega) ?_ ?_
    · exact Nat.lt_add_of_pos_right (Nat.mul_pos (by omega) hk)
    · intro m _ hb
      have : 0 < 500000 * m - g.phase := by
        by_contra hc
        have h0 : 500000 * m - g.phase = 0 := by omega
        simp [h0] at hb
      omega
  | some t =>
    simp only [Option.getD_some, Config.waveParts]
    split
    · next hlt =>
      exact key _ _ (by omega) (lt_of_lt_of_le hlt (Nat.le_add_right _ _)) (fun m hpm _ => by omega)
    · next hge =>
      obtain ⟨d, rfl⟩ := Nat.exists_eq_add_of_le (Nat.le_of_not_lt hge)
      rw [Nat.add_sub_cancel_left]
      have hm (m : Nat) : d < m * g.slowness ↔ d / g.slowness < m := (Nat.div_lt_iff_lt_mul hk).symm
      generalize d / g.slowness = q at hm ⊢
      refine key _ _ (by omega) (Nat.add_lt_add_left ((hm _).2 (by omega)) _) fun m _ hb => ?_
      have := (hm _).1 (Nat.lt_of_add_lt_add_left hb)
      omega

end Sys2Proof.Laws
end

