-- ==== Sys2Proof/Tests/Slice0.lean ====
section
/-!
SUPPORT. Our own tests: the well-formedness checks, the manual's worked examples and tables, and a witness for the hypotheses of
each obligation. Every expected value is the manual's, read from a worked example or worked out by hand from the rule named.
-/

namespace Sys2Proof.Tests

open Machine Safety

/-- The state a row leaves, for small tests. -/
def left (i : Instr) (s : State) : State :=
  match exec i s with
  | .next t => t
  | .fault _ | .refused _ => s

/-! ### Well-formedness: one ill-formed term for each check, and one that passes -/

theorem test_payload_of_41_is_ill_formed : WellFormed (.identify 0 (List.replicate 41 0)) = false := by decide
theorem test_payload_of_40_is_well_formed : WellFormed (.printText 0 (List.replicate 40 0)) = true := by decide
theorem test_known_kind_is_no_unknown_frame : WellFormed (.unknownKindFrame 0 0x01 []) = false := by decide
theorem test_unknown_frame_payload_checked : WellFormed (.unknownKindFrame 0 0x06 (List.replicate 41 0)) = false := by decide
theorem test_unknown_frame_is_well_formed : WellFormed (.unknownKindFrame 0 0x06 []) = true := by decide
theorem test_lead_byte_is_no_stray : WellFormed (.strayByte 0 0xC3) = false := by decide
theorem test_length_byte_40_is_ill_formed : WellFormed (.lengthByteAbove40 0 40) = false := by decide
theorem test_length_byte_41_is_well_formed : WellFormed (.lengthByteAbove40 0 41) = true := by decide
/-- The check byte ECh of the manual's CONNECT ORIGINATE is right, so it is no wrong check byte; EDh is. -/
theorem test_right_check_byte_is_ill_formed : WellFormed (.wrongCheckByte 0 0x13 [0x00] 0xEC) = false := by decide
theorem test_wrong_check_byte_is_well_formed : WellFormed (.wrongCheckByte 0 0x13 [0x00] 0xED) = true := by decide
theorem test_contact_72_is_ill_formed : WellFormed (.scanReading [72]) = false := by decide
theorem test_contact_71_is_well_formed : WellFormed (.scanReading [0, 71]) = true := by decide

/-- The table gives no row bits, so no word spells a command, and a word placed changes nothing (log 19). -/
theorem test_no_word_spells_a_command :
    decodeTableWord 8 0x13 = none ∧ State.reset.withFetchWord 8 0x13 = State.reset := ⟨rfl, rfl⟩

/-! ### The message link -/

/-- 09, worked example: C3h 13h 01h 00h ECh is answered C3h 93h 01h 00h 6Ch. -/
theorem test_connect_reply_bytes : ltxd (sendReply (.done 0x13) State.reset) = [0xC3, 0x93, 0x01, 0x00, 0x6C] := by
  decide

theorem test_connect_frame_check : frameSum 0x13 [0x00] 0xEC = 0 := by decide

/-- R192: the groups' lengths, their bytes and the length byte. -/
theorem test_group_lengths :
    (groupBytes .line State.reset).length = 20 ∧ (groupBytes .print State.reset).length = 27
      ∧ (groupBytes .keys State.reset).length = 7 ∧ (groupBytes .supply State.reset).length = 15 := by decide +kernel

/-- R52: the tab stops 8, 16, 24 and 32, as the five bytes of R192. -/
theorem test_tab_bytes : tabBytes [8, 16, 24, 32] = [0x00, 0x01, 0x01, 0x01, 0x01] := by decide

/-- R182, R194: a CONNECT from reset queues DONE, and the frame on LTXD is still the CONDITION report. -/
theorem test_connect_from_reset :
    (left (.connect 0 [0x00]) State.reset).link.replies = [.done 0x13]
      ∧ (left (.connect 0 [0x00]) State.reset).conn.state = .waitAnswer
      ∧ ltxd (left (.connect 0 [0x00]) State.reset) = [0xC3, 0x61, 0x02, 0x01, 0x00, 0x9C] := by decide +kernel

/-- R178: a lead byte while LRDY is high begins a ready frame, with 10 ms for the next byte. -/
theorem test_lead_byte :
    (left (.leadByte 100) State.reset).link.receiver = .inside true []
      ∧ (left (.leadByte 100) State.reset).link.gap = some 10100 := by decide +kernel

/-! ### Strobe energy -/

/-- R39, R40, R37: class B, 32 dots, with the carrier on, density +1, hot ratio 80 and no boost. -/
def classB : HeadConfig := { cls := .b, maxWidth := 2000, maxDots := 32 }

/-- 02, worked example: 35 °C; at 6600 mV N is 32 and the widths 963 and 770 µs; at 5600 mV 11, 1338 and 1070; at 5360 mV 0,
1441 and 1152; at 5480 mV 8, 1399 and 1119. -/
theorem test_strobe_example :
    let at0 (code : Byte) : Figures := figures classB 0 { State.reset with
      conn := { Conn.reset with state := .online }
      supply := { Supply.reset with
        battery := { code := code, valid := true }, temp := { code := 141, valid := true }, density := 1 } }
    at0 165 = { limit := 32, cold := 963, hot := 770 } ∧ at0 140 = { limit := 11, cold := 1338, hot := 1070 }
      ∧ at0 134 = { limit := 0, cold := 1441, hot := 1152 } ∧ at0 137 = { limit := 8, cold := 1399, hot := 1119 } := by
  decide +kernel

/-- R26: 35 °C is the code 141, and 6600 mV the code 165. -/
theorem test_derived : celsius 141 = 35 ∧ millivolts 165 = 6600 ∧ celsius 0 = 90 ∧ celsius 255 = -10 := by decide

/-- 02, worked example: 110 cold and 40 hot dots at N = 32 take phases of 32, 32, 32, 14, 32 and 8 dots; at N = 11, ten of 11
and then 11, 11, 11 and 7. -/
theorem test_row_phases :
    let hot := List.range 40
    let r : BurnRow := { marked := List.range 150, hot := some hot, burned := [], next := .phase }
    (phasesOf 32 150 r hot).map List.length = [32, 32, 32, 14, 32, 8]
      ∧ (phasesOf 11 150 r hot).map List.length = List.replicate 13 11 ++ [7] := by decide +kernel

/-! ### Motion -/

/-- 01, worked example: a head at rest with a battery at 7200 mV and 25 °C. -/
def rest : State := { State.reset with
  head := { Head.reset (some { cls := .b, maxWidth := 2000, maxDots := 32 }) true with paper := true }
  supply := { Supply.reset with battery := { code := 180, valid := true }, temp := { code := 166, valid := true } } }

/-- 01, worked example: the entries join, row 0 is taken at once, and the motor is energized for 20 ms. -/
theorem test_first_entries :
    let s := appendEntries [.burn (List.range 40), .burn (List.range 48), .feed 2] rest
    s.head.state = .energizing ∧ s.head.motor = .energizing ∧ s.head.queue.length = 2 ∧ s.head.energize = some 20000 := by
  decide +kernel

/-- The same head 20 ms later, with row 0 begun. -/
def energizing : State := appendEntries [.burn (List.range 40), .feed 2] rest

/-- 01, worked example: at 20.00 ms the driver is BURNING with the motor HELD, the boost count 2, 32 dots loading for 80 µs. -/
theorem test_energizing_ends :
    let s := left .energizingTimerExpiry energizing
    s.head.state = .burning ∧ s.head.motor = .held ∧ s.head.boostRows = 2
      ∧ s.head.phase.map (fun p => (p.dots, p.loading, p.due)) = some (List.range 32, true, 20080) := by decide +kernel

/-- 01, worked example: at the pulse's end the second phase takes the 8 dots left. -/
theorem test_second_phase :
    let s := left .pulseEnd (left .loadingEnd (left .energizingTimerExpiry energizing))
    s.head.state = .burning ∧ s.head.phase.map Phase.dots = some [32, 33, 34, 35, 36, 37, 38, 39]
      ∧ s.head.phasesBurned = 1 := by decide +kernel

/-! ### Glyphs -/

/-- The soft glyphs with code 80h the manual's hollow box. -/
def boxes : List (List Byte) :=
  ([0xFF] ++ List.replicate 8 0x81 ++ [0xFF]) :: List.replicate 15 (List.replicate 10 0)

/-- The manual's line: 80h single in cell 5 and double at column 10. -/
def boxLine : Line :=
  { Line.fresh with
    ink := true
    cells := ((Line.fresh.cells.set 5 { codes := [0x80], wide := .none }).set 10 { codes := [0x80], wide := .leftHalf }).set
      11 { codes := [0x80], wide := .rightHalf } }

/-- 04, worked example: the dots of row 0 and of row 1, and the eleven entries. -/
theorem test_box_rows :
    dotRow boxes boxLine 0 = [40, 41, 42, 43, 44, 45, 46, 47, 80, 81, 82, 83, 84, 85, 86, 87, 88, 89, 90, 91, 92, 93, 94, 95]
      ∧ dotRow boxes boxLine 1 = [40, 47, 80, 81, 94, 95] := by decide +kernel

theorem test_box_entries :
    (rasterize boxes boxLine).map (fun e => match e with | .burn ds => ds.length | .feed n => 1000 + n)
      = [24, 6, 6, 6, 6, 6, 6, 6, 6, 24, 1002] := by decide +kernel

/-- 04, worked example: with a blank glyph the line is one FEED 12. -/
theorem test_blank_box : rasterize Formatter.reset.soft boxLine = [.feed 12] := by decide +kernel

/-! ### Characters on the line -/

/-- 05, worked example: the letter A in the reset format: start, 1, 0, 0, 0, 0, 0, 1, an even parity of 0, stop. -/
theorem test_letter_a_cells :
    framedCells .reset 0x41 = [false, true, false, false, false, false, false, true, false, true] := by decide

/-- 05, worked example: the start is confirmed at 1666 µs and the last centre is at 31663 µs. -/
theorem test_letter_a_centres :
    nextCentre .reset 0 [] = 1666 ∧ nextCentre .reset 0 (List.replicate 9 true) = 31663
      ∧ watchEnd .reset 0 = 66660 := by decide

/-- 05, worked example: the character heard in ONLINE joins the store with both flags clear and is counted as received. -/
theorem test_letter_a_received :
    let s : State := { State.reset with
      conn := { Conn.reset with state := .online }
      signal := { Signal.reset with lineMark := false, deframer := .assembling 0 [] false } }
    let t := heard (framedCells .reset 0x41) s
    t.router.store = [{ code := 0x41, parityBad := false, framingBad := false }] ∧ t.signal.received = 1
      ∧ t.now = 31663 ∧ t.signal.deframer = .waitStart := by decide +kernel

/-- R98: a half-period of 265 µs on the high channel is SPACE, one of 240 µs MARK. -/
theorem test_half_periods : classify .high 265 = .space ∧ classify .high 240 = .mark ∧ classify .low 446 = .mark := by
  decide

/-! ### The keyboard -/

/-- 07: three corners of a rectangle, keys (KD1, KS5), (KD1, KS6) and (KD3, KS5), make (KD3, KS6) read down. -/
theorem test_fourth_corner : readings [14, 15, 32] 3 = [false, false, false, false, false, true, true, false, false] := by
  decide +kernel

/-- R148: 14 is w, 32 is h, SHIFT with 1 is !, CTRL with s is 13h, FN with 3 is PAUSE, 36 is LOCK, 54 + 2 has no key. -/
theorem test_rom_keymap :
    (romKeymap.entry .plain 14).kind = .char 0x77 ∧ (romKeymap.entry .plain 32).kind = .char 0x68
      ∧ (romKeymap.entry .shift 0).kind = .char 0x21 ∧ (romKeymap.entry .ctrl 28).kind = .char 0x13
      ∧ (romKeymap.entry .fn 2).kind = .action .pause ∧ (romKeymap.entry .plain 36).kind = .modifier .lock
      ∧ (romKeymap.entry .plain 56).kind = .none := by decide +kernel

/-- R139, R140: a key closed in the first pass is refused; pressed in a later pass it is a key-down at the third reading. -/
theorem test_third_reading_is_a_key_down :
    let scanned : State := { State.reset with keys := { State.reset.keys with firstPass := false } }
    let near : State := { scanned with keys := { scanned.keys with
      records := scanned.keys.records.set 0 { KeyRecord.reset with count := 2, latest := true } } }
    (left (.scanReading [0]) scanned).keys.queue = []
      ∧ (left (.scanReading [0]) near).keys.queue = [{ code := 0x31, repeated := false }]
      ∧ (left (.scanReading [0]) State.reset).keys.queue = [] := by decide +kernel

/-! ### Witnesses: states and operands that meet the hypotheses of the obligations, clause by clause -/

/-- From reset a command of any kind can be taken: the receiver is outside and LRDY is high. -/
theorem canTake_reset (kind : Byte) (p : List Byte) : CanTake kind p State.reset := ⟨rfl, .inl ⟨rfl, by decide⟩⟩

/-- A state in which LRDY is low: a RESTART is owed. -/
def busy : State := { State.reset with link := { State.reset.link with restartOwed := true } }

/-- From it a command of any kind is discarded. -/
theorem canDiscard_busy (kind : Byte) (p : List Byte) : CanDiscard kind p busy := ⟨rfl, .inl ⟨rfl, by decide⟩⟩

/-- The receiver inside a frame with these bytes collected, at the moment 5000 with the gap timer to end at 9000. -/
def inside (isReady : Bool) (bytes : List Byte) : State :=
  { State.reset with now := 5000, link := { State.reset.link with receiver := .inside isReady bytes, gap := some 9000 } }

theorem canTake_inside : CanTake 0x04 [0x03] (inside true [0x04, 0x01, 0x03]) := ⟨rfl, .inr rfl⟩
theorem canDiscard_inside : CanDiscard 0x04 [0x03] (inside false [0x04, 0x01, 0x03]) := ⟨rfl, .inr rfl⟩

theorem test_hyp_StepRunsTheFrontCommand : State.reset.pending = [] := rfl

theorem test_hyp_RowEndFrame : State.reset.fmt.activity ≠ .stalled := by decide

/-- A wrong length for each shape of payload: none, one, several, a text of 0 and of 39, a keymap of 4 and of 6. -/
theorem test_hyp_FramesTurnedAway :
    (∀ p ∈ [[0x00], [0x00, 0x00]], lengthFits 0x01 p = false ∧ lengthFits 0x0D p = false)
      ∧ (∀ p ∈ [[], [0x00, 0x00]], lengthFits 0x04 p = false)
      ∧ lengthFits 0x0B [] = false ∧ lengthFits 0x0B (List.replicate 39 0x41) = false
      ∧ lengthFits 0x19 (List.replicate 4 0x00) = false ∧ lengthFits 0x19 (List.replicate 6 0x00) = false
      ∧ lengthFits 0x0C [0x20] = false ∧ lengthFits 0x0C [] = false
      ∧ commandFrame (.printText 7 []) = some (7, 0x0B, []) ∧ CanTake 0x0B [] State.reset ∧ CanDiscard 0x0B [] busy :=
  ⟨by decide, by decide, by decide, by decide, by decide, by decide, by decide, by decide, rfl, canTake_reset _ _,
    canDiscard_busy _ _⟩

theorem test_hyp_LinkCommands :
    (∀ (k : Byte) (p : List Byte), CanTake k p State.reset) ∧ 3 < (0x04 : Byte).toNat ∧ Group.supply.code = 0x03
      ∧ 32 ≤ (0x20 : Byte).toNat ∧ (0x1F : Byte).toNat < 32 :=
  ⟨canTake_reset, by decide, rfl, by decide, by decide⟩

theorem test_hyp_ReceiverTakesBytes :
    State.reset.resetting = none ∧ State.reset.link.receiver = .outside
      ∧ (inside true []).link.receiver = .inside true [] ∧ ([] : List Byte).length = 0
      ∧ (inside true [0x0B]).link.receiver = .inside true [0x0B] ∧ (40 : Byte).toNat ≤ 40
      ∧ (inside false [0x0B, 0x02, 0x41]).link.receiver = .inside false [0x0B, 0x02, 0x41]
      ∧ [0x0B, 0x02, (0x41 : Byte)].length < 2 + ([0x0B, 0x02, (0x41 : Byte)].getD 1 0).toNat :=
  ⟨rfl, rfl, rfl, rfl, rfl, by decide, rfl, by decide⟩

theorem test_hyp_ReceiverTakesBytes_bad :
    State.reset.resetting = none ∧ State.reset.link.receiver = .outside ∧ (0xC2 : Byte) ≠ 0xC3
      ∧ (inside true [0x13]).link.receiver = .inside true [0x13] ∧ (inside false [0x13]).link.receiver = .inside false [0x13]
      ∧ 40 < (41 : Byte).toNat ∧ CanTake 0x13 [0x00] State.reset
      ∧ ((0x13 : Byte).toNat + 1 + 0 + (0xED : Byte).toNat) % 256 ≠ 0 :=
  ⟨rfl, rfl, by decide, rfl, rfl, by decide, canTake_reset _ _, by decide⟩

/-- The kinds next to those of the table: 00h, 06h, 0Ah, 17h, 1Eh and FFh. -/
theorem test_hyp_ReceiverTakesBytes_kinds :
    ∀ k ∈ [0x00, 0x06, 0x07, 0x0A, 0x17, 0x1E, (0xFF : Byte)], commandKinds.contains k = false := by decide

theorem test_hyp_FramesTurnedAway_torn :
    (inside true []).resetting = none ∧ (inside true []).link.receiver = .inside true []
      ∧ (inside true []).link.gap = some 9000
      ∧ (inside false [0x0B]).link.receiver = .inside false [0x0B] ∧ (inside false [0x0B]).link.gap = some 9000 :=
  ⟨rfl, rfl, rfl, rfl, rfl⟩

/-- An idle transmitter, with the replies given and the LINE STATE report pending or not. -/
def quiet (replies : List Reply) (line : Bool) : State :=
  { State.reset with link := { State.reset.link with tx := none, replies := replies, pendLineState := line } }

theorem test_hyp_TransmitterArbiter :
    (∃ f, State.reset.link.tx = some f ∧ f.restart = false ∧ State.reset.resetting = none ∧ State.reset.link.tx ≠ none)
      ∧ (quiet [.done 0x13, .identify] false).link.tx = none
      ∧ (quiet [.done 0x13, .identify] false).link.replies = [.done 0x13, .identify]
      ∧ (quiet [] true).link.replies = [] ∧ firstReport (quiet [] true) = some 0x62 ∧ firstReport (quiet [] false) = none :=
  ⟨⟨_, rfl, rfl, rfl, by decide⟩, rfl, rfl, rfl, by decide, by decide⟩

/-- R176: the first byte of the CONDITION report at reset, C3h, is a low start bit, 11000011 from the least significant bit, and a
high stop bit; its second bit begins 53 µs into the frame. -/
theorem test_hyp_TransmitterArbiter_wire :
    wireBits 0xC3 = [false, true, true, false, false, false, false, true, true, true]
      ∧ byteOfWire [false, true, true, false, false, false, false, true, true, false] = none
      ∧ (∃ f, State.reset.link.tx = some f ∧ f.bytes[0]? = some 0xC3
          ∧ 53 + 521 * f.bytes.length = f.due + 521 * 0 + 53 ∧ f.due ≤ 3126)
      ∧ 1 * 1000000 ≤ 19200 * 53 ∧ 19200 * 53 < (1 + 1) * 1000000
      ∧ ltxdHigh State.reset = false ∧ ltxdHigh { State.reset with now := 53 } = true := by
  refine ⟨by decide, by decide, ⟨_, rfl, rfl, by decide, by decide⟩, by decide, by decide, by decide, by decide⟩

/-- R176: the line is at rest from the end of the last stop bit on, with the frame's end not yet given. -/
theorem test_ltxd_rests :
    [3125, 3126, 3130].map (fun n => ltxdHigh { State.reset with now := n }) = [true, true, true]
      ∧ ltxdHigh { State.reset with now := 2605 } = false := by decide

/-- A transmitter with no reply waiting and the flags and the fills of its two data queues given. -/
def reporting (condition line : Bool) (rx : Nat) (keys : Nat) : State :=
  { State.reset with
    link := { State.reset.link with
      tx := none, pendCondition := condition, pendLineState := line, pendSpace := true
      mask := { condition := true, lineState := true, rxData := true, keyData := true, space := true } }
    router := { Router.reset with
      rxData := List.replicate rx 0x41, keyData := List.replicate keys { code := 0x42, repeated := true } } }

theorem test_hyp_LatchesAndReports :
    State.reset.link.isSet .restarted = true ∧ State.reset.link.isSet .keyLost = false
      ∧ Latch.keyLost ≠ Latch.restarted
      ∧ (∀ c l r k, (reporting c l r k).link.tx = none ∧ (reporting c l r k).link.replies = []
          ∧ (reporting c l r k).link.pendCondition = c ∧ (reporting c l r k).link.pendLineState = l
          ∧ (reporting c l r k).link.pendSpace = true)
      ∧ (∀ r ∈ [1, 16, 17, 32], ((reporting false false r 0).link.mask.rxData
          && !(reporting false false r 0).router.rxData.isEmpty) = true)
      ∧ (∀ k ∈ [1, 16], ((reporting false false 0 k).link.mask.keyData
          && !(reporting false false 0 k).router.keyData.isEmpty) = true) :=
  ⟨by decide, by decide, by decide, fun _ _ _ _ => ⟨rfl, rfl, rfl, rfl, rfl⟩, by decide, by decide⟩

/-- R189: KEY LOST is bit 8 of the mask and LINK TORN bit 15: they alone give 8100h. -/
theorem test_latch_bits :
    (((LinkPort.reset.setLatch .keyLost).setLatch .linkTorn).latches ||| 1) = (LinkPort.reset.latches ||| 0x8101) := by decide

/-- R185: of 17 entries the report takes 16. -/
theorem test_report_takes_sixteen :
    (kickLink (reporting false false 17 0)).router.rxData = [0x41]
      ∧ (ltxd (kickLink (reporting false false 17 0))).length = 21 := by decide

/-- A state whose transmitter sends RESTART's reply. -/
def leaving : State :=
  { State.reset with link := { State.reset.link with
      tx := some { bytes := [0xC3, 0x82, 0x01, 0x00, 0x7D], due := 2605, restart := true } } }

theorem test_hyp_ResetsTakeEffect_held :
    (left (.powerUpReset 0) State.reset).resetting ≠ none
      ∧ ∀ dt, Instr.stepEnd ≠ .powerUpReset dt ∧ Instr.stepEnd ≠ .generalResetFromPin dt ∧ Instr.stepEnd ≠ .resetEnd dt
        ∧ Instr.stepEnd ≠ .paperSensorChange dt :=
  ⟨by decide +kernel, fun _ => ⟨Instr.noConfusion, Instr.noConfusion, Instr.noConfusion, Instr.noConfusion⟩⟩

theorem test_hyp_ResetsTakeEffect :
    State.reset.resetting ≠ some .power ∧ (left (.powerUpReset 0) State.reset).resetting = some .power
      ∧ (∃ f, leaving.link.tx = some f ∧ f.restart = true) ∧ leaving.resetting = none :=
  ⟨by decide, rfl, ⟨_, rfl, rfl⟩, rfl⟩

theorem test_hyp_ResetEnds :
    HeldSince State.reset 7 .power none none (left (.powerUpReset 7) State.reset)
      ∧ HeldSince leaving 2605 .command none (some 3605) (left .linkFrameEnd leaving) :=
  ⟨⟨rfl, rfl, rfl, rfl, rfl, rfl, rfl, rfl, rfl, rfl, rfl, rfl, rfl, rfl, rfl⟩,
    ⟨rfl, rfl, rfl, rfl, rfl, rfl, rfl, rfl, rfl, rfl, rfl, rfl, rfl, rfl, rfl⟩⟩

theorem test_hyp_ResetStateIsPowerUp :
    ∃ u t, State.reset.now = 0 ∧ State.reset.pending = [] ∧ State.reset.head.paper = false
      ∧ exec (.powerUpReset 0) State.reset = .next u ∧ exec (.resetEnd 0) u = .next t :=
  ⟨_, _, rfl, rfl, rfl, rfl, rfl⟩

/-! #### The Head Driver and the Supply Monitor -/

/-- A configured head at rest with one FEED entry waiting. -/
def waitingRow (motor : Motor) (settle : Timer) (entries : List RowEntry) : State :=
  { rest with head := { rest.head with queue := entries, motor := motor, settle := settle } }

theorem test_hyp_HeadCommands :
    (∀ p, CanTake 0x08 p rest) ∧ rest.head.config ≠ none ∧ State.reset.head.config = none ∧ 3 < (0x04 : Byte).toNat
      ∧ [HeadClass.a, .b, .c, .d][(0x03 : Byte).toNat]? = some .d ∧ State.reset.head.queue = []
      ∧ State.reset.head.motor = .released ∧ 1 < (0x02 : Byte).toNat ∧ (0x01 : Byte).toNat ≤ 1 :=
  ⟨fun _ => ⟨rfl, .inl ⟨rfl, by decide⟩⟩, by decide, rfl, by decide, rfl, rfl, rfl, by decide, by decide⟩

/-- An unconfigured head with an entry waiting. -/
theorem test_hyp_HeadCommands_waiting :
    let s : State := { State.reset with head := { State.reset.head with queue := [.feed 1] } }
    CanTake 0x08 [0x01, 0xD0, 0x07, 0x20] s ∧ s.head.config = none ∧ s.head.queue = [.feed 1]
      ∧ s.head.motor = .released := ⟨⟨rfl, .inl ⟨rfl, by decide⟩⟩, rfl, rfl, rfl⟩

/-- The motor being energized for this row. -/
def energizingFor (row : CurrentRow) (settle : Timer) : State :=
  { rest with head := { rest.head with
      state := .energizing, motor := .energizing, energize := some 20000, row := some row, settle := settle } }

/-- A row with its first dots still to be burned, its split made or not, and the start it is on its way to make. -/
def burnRow (hot : Option (List Nat)) (next : NextStart) : BurnRow :=
  { marked := [3, 4, 5], hot := hot, burned := [], next := next }

theorem test_hyp_MotorAndRowCycles :
    (∀ row settle, (energizingFor row settle).resetting = none ∧ (energizingFor row settle).head.energize = some 20000
        ∧ (energizingFor row settle).head.row = some row ∧ (energizingFor row settle).head.settle = settle)
      ∧ (burnRow none .step).next = .step ∧ (burnRow none .phase).next = .phase ∧ (burnRow none .phase).hot = none
      ∧ (burnRow (some []) .phase).hot ≠ none ∧ rest.head.config = some { cls := .b, maxWidth := 2000, maxDots := 32 }
      ∧ (waitingRow .released none [.feed 1]).head.queue = [.feed 1]
      ∧ (waitingRow .held (some 9) [.burn [3]]).head.settle ≠ none ∧ (waitingRow .held none [.burn [3]]).head.settle = none :=
  ⟨fun _ _ => ⟨rfl, rfl, rfl, rfl⟩, rfl, rfl, rfl, by decide, rfl, rfl, by decide, rfl⟩

theorem test_hyp_MotorAndRowCycles_hold :
    let s : State := { rest with head := { rest.head with motor := .held, hold := some 400000 } }
    s.resetting = none ∧ s.head.hold = some 400000 := ⟨rfl, rfl⟩

/-- Each clause of a step start: no valid reading; paper and current; no paper; too little current. -/
theorem test_hyp_StepStartIsJudged :
    State.reset.supply.battery.valid = false
      ∧ rest.supply.battery.valid = true ∧ rest.head.paper = true ∧ 350 ≤ iMax rest
      ∧ iMax { rest with supply := { rest.supply with battery := { code := 134, valid := true } } } < 350
      ∧ ({ rest with head := { rest.head with paper := false } } : State).head.paper = false := by decide

/-- Each clause of a phase start: no valid reading; N at 4 or more and no indication; N below 4; HOT; BATTERY LOW. -/
theorem test_hyp_PhaseStartIsJudged :
    (State.reset.supply.battery.valid && State.reset.supply.temp.valid) = false
      ∧ (rest.supply.battery.valid && rest.supply.temp.valid) = true ∧ rest.supply.hot = false
      ∧ rest.supply.batteryLow = false ∧ 4 ≤ (figures classB 2 rest).limit
      ∧ (figures classB 2 { rest with supply := { rest.supply with battery := { code := 135, valid := true } } }).limit = 7
      ∧ (figures classB 2 { rest with supply := { rest.supply with battery := { code := 134, valid := true } } }).limit < 4 := by
  decide +kernel

/-- A pulse being loaded, or nearing its end, in a row with the burned dots given. -/
def pulsing (loading : Bool) (burned : List Nat) : State :=
  { rest with head := { rest.head with
      state := .burning, motor := .held
      row := some (.burn { marked := [3, 4, 5], hot := some [], burned := burned, next := .phase })
      phase := some { dots := [5], width := 900, loading := loading, due := 80 } } }

theorem test_hyp_PhasesAndStepsEnd :
    (∀ loading burned, (pulsing loading burned).resetting = none
        ∧ (pulsing loading burned).head.phase = some { dots := [5], width := 900, loading := loading, due := 80 }
        ∧ (pulsing loading burned).head.config = some { cls := .b, maxWidth := 2000, maxDots := 32 })
      ∧ (∃ d ∈ [3, 4, 5], d ∉ [3] ++ [5]) ∧ ∀ d ∈ [3, 4, 5], d ∈ [3, 4] ++ [5] :=
  ⟨fun _ _ => ⟨rfl, rfl, rfl⟩, by decide, by decide⟩

/-- R12: the strobe line of the dot's block alone, during the pulse alone; dot 319 shifted first, dot 5 by the 315th
clock, and the latch after the 320th. -/
theorem test_strobe_and_data :
    strobe (pulsing false []) 0 = true ∧ strobe (pulsing false []) 1 = false ∧ strobe (pulsing true []) 0 = false
      ∧ (headPulses (pulsing true []))[314]? = some (.clock true) ∧ (headPulses (pulsing true []))[320]? = some .latch
      ∧ headPulses (pulsing false []) = []
      ∧ (shiftedBits { dots := [319, 5], width := 900, loading := true, due := 80 })[0]? = some true := by decide +kernel

/-- R7: at position 1 MB and MC are driven, and none when the motor is RELEASED. -/
theorem test_motor_outputs :
    motorOutputs { rest with head := { rest.head with motor := .held, position := 1 } } = (false, true, true, false)
      ∧ motorOutputs { rest with head := { rest.head with position := 1 } } = (false, false, false, false) := by decide

/-- A step of a FEED with this many steps left, or of a BURN row. -/
def stepping (row : CurrentRow) (entries : List RowEntry) : State :=
  { rest with head := { rest.head with
      state := .stepping, motor := .stepping, step := some 2500, row := some row, queue := entries } }

theorem test_hyp_PhasesAndStepsEnd_steps :
    (∀ row es, (stepping row es).resetting = none ∧ (stepping row es).head.step = some 2500
        ∧ (stepping row es).head.row = some row ∧ (stepping row es).head.queue = es)
      ∧ (∃ c l, CurrentRow.feed 2 2 = .feed c l ∧ 2 ≤ l) ∧ (∃ c l, CurrentRow.feed 2 1 = .feed c l ∧ l ≤ 1)
      ∧ (∃ r, CurrentRow.burn (burnRow none .step) = .burn r) :=
  ⟨fun _ _ => ⟨rfl, rfl, rfl, rfl⟩, ⟨2, 2, rfl, by decide⟩, ⟨2, 1, rfl, by decide⟩, ⟨_, rfl⟩⟩

/-- A driver whose settle period runs, in the state given. -/
def settlingIn (state : DriverState) : State :=
  { rest with head := { rest.head with
      state := state, motor := .held, settle := some 10000, row := some (.burn (burnRow none .phase)) } }

theorem test_hyp_SettlingAndPaper :
    (settlingIn .settling).resetting = none ∧ (settlingIn .settling).head.settle = some 10000
      ∧ (settlingIn .settling).head.row = some (.burn (burnRow none .phase)) ∧ (settlingIn .idle).head.state ≠ .settling
      ∧ rest.head.config = some { cls := .b, maxWidth := 2000, maxDots := 32 }
      ∧ ({ rest with head := { rest.head with paperTimer := some 1000000 } } : State).head.state ≠ .paused := by decide

/-- A conversion about to end, on the channel given. -/
def converting (channel : Channel) (s : State) : State :=
  { s with supply := { s.supply with channel := channel, conversion := some 1000 } }

/-- A start that waits for a first reading, with the motor HELD. -/
def awaiting (channel : Channel) (row : CurrentRow) : State :=
  { converting channel rest with head := { rest.head with
      state := .burning, motor := .held, waiting := true, row := some row } }

theorem test_hyp_ReadingsAreJudged :
    (∀ c, (converting c rest).resetting = none ∧ (converting c rest).supply.conversion = some 1000
        ∧ (converting c rest).head.state ≠ .paused ∧ (converting c rest).head.waiting = false
        ∧ (converting c rest).supply.channel = c)
      ∧ (∀ c r, (awaiting c r).resetting = none ∧ (awaiting c r).head.waiting = true
          ∧ (awaiting c r).supply.conversion = some 1000 ∧ (awaiting c r).supply.channel = c)
      ∧ (startedAgain (readingTaken 1000 165 (awaiting .battery (.feed 1 1)))).isSome = true
      ∧ (startedAgain (readingTaken 1000 165 (awaiting .temp (.burn (burnRow none .phase))))).isSome = true :=
  ⟨fun _ => ⟨rfl, rfl, (by decide : DriverState.idle ≠ .paused), rfl, rfl⟩, fun _ _ => ⟨rfl, rfl, rfl, rfl⟩, rfl, rfl⟩

/-- A pause for the reasons given, with a conversion and the paper-present timer about to end. -/
def pausedOn (why : Reasons) (motor : Motor) (row : CurrentRow) (channel : Channel) : State :=
  { rest with
    supply := { rest.supply with
      channel := channel, conversion := some 1000, hot := why.hot, starved := why.starved
      batteryLow := why.batteryLow, lowCount := 1 }
    head := { rest.head with
      state := .paused, motor := motor, row := some row, reasons := why, paperTimer := some 1000 } }

/-- Each pause, its end in ENERGIZING and at once, and the readings at their edges: 55 °C, 5800 mV, the headroom of a step, and
an N of 4 or more and of less. -/
theorem test_hyp_PausesEnd :
    (∀ w m r c, (pausedOn w m r c).resetting = none ∧ (pausedOn w m r c).supply.conversion = some 1000
        ∧ (pausedOn w m r c).head.state = .paused ∧ (pausedOn w m r c).head.waiting = false
        ∧ (pausedOn w m r c).head.reasons = w ∧ (pausedOn w m r c).supply.channel = c
        ∧ (pausedOn w m r c).supply.hot = w.hot ∧ (pausedOn w m r c).supply.batteryLow = w.batteryLow
        ∧ (pausedOn w m r c).supply.starved = w.starved ∧ (pausedOn w m r c).supply.lowCount = 1
        ∧ (pausedOn w m r c).supply.battery.valid = true ∧ (pausedOn w m r c).supply.temp.valid = true
        ∧ (pausedOn w m r c).head.row = some r ∧ (pausedOn w m r c).head.paperTimer = some 1000
        ∧ (pausedOn w m r c).head.config = some classB)
      ∧ (∃ t, Resumed (pausedOn onlyHot .released (.feed 1 1) .temp) t)
      ∧ (∃ t, Resumed (pausedOn onlyHot .held (.burn (burnRow none .phase)) .temp) t)
      ∧ stepRefused (pausedOn onlyStarved .held (.feed 1 1) .battery)
      ∧ stepRefused (pausedOn onlyStarved .held (.burn (burnRow none .step)) .battery)
      ∧ 90 - ((90 : Byte).toNat * 100 / 255 : Nat) ≤ (55 : Int) ∧ 145 ≤ (145 : Byte).toNat
      ∧ 350 ≤ ceilingCurrent (40 * (135 : Byte).toNat) ∧ ceilingCurrent (40 * (134 : Byte).toNat) < 350 :=
  ⟨fun _ _ _ _ => ⟨rfl, rfl, rfl, rfl, rfl, rfl, rfl, rfl, rfl, rfl, rfl, rfl, rfl, rfl, rfl⟩,
    ⟨_, .inl ⟨rfl, rfl⟩⟩, ⟨_, .inr ⟨rfl, rfl⟩⟩, .inl ⟨1, 1, rfl⟩, .inr ⟨_, rfl, rfl⟩, by decide, by decide, by decide, by decide⟩

/-- A phase start judged afresh at 5400 mV and at 5360 mV. -/
theorem test_hyp_PausesEnd_phase :
    (∀ code, ∃ v, JudgedAfresh (readingTaken 1000 code (pausedOn onlyStarved .held (.burn (burnRow none .phase)) .battery))
        (decide ((figures classB 0
          (readingTaken 1000 code (pausedOn onlyStarved .held (.burn (burnRow none .phase)) .battery))).limit < 4)) v)
      ∧ [134, 135].map (fun code => decide ((figures classB 0
          (readingTaken 1000 code (pausedOn onlyStarved .held (.burn (burnRow none .phase)) .battery))).limit < 4))
        = [true, false] :=
  ⟨fun _ => ⟨_, .inr ⟨_, _, rfl, rfl, rfl, rfl, rfl⟩⟩, by decide +kernel⟩

/-- R19: STARVED with each other reason. A reading of 5800 mV that is the second in a row removes STARVED and BATTERY LOW
together; one of 5760 mV removes STARVED alone, and one of 5360 mV none. -/
theorem test_hyp_PausesEnd_several :
    let both : Reasons := { hot := false, starved := true, batteryLow := true, noPaper := false }
    let p (w : Reasons) : State := pausedOn w .held (.feed 1 1) .battery
    (∀ w code, ∃ v, JudgedAfresh (readingTaken 1000 code (p w))
        (decide (iMax (readingTaken 1000 code (p w)) < if carrierOn (readingTaken 1000 code (p w)).conn then 410 else 350)) v)
      ∧ [145, 144, 134].map (fun code => decide (iMax (readingTaken 1000 code (p both)) < 350)) = [false, false, true]
      ∧ reasonsAfterBattery (p both) 145 false = .none ∧ both ≠ .none
      ∧ reasonsAfterBattery (p both) 144 false = onlyBatteryLow
      ∧ reasonsAfterBattery (p both) 134 true = both
      ∧ reasonsAfterBattery (p { onlyStarved with hot := true }) 145 false = onlyHot
      ∧ reasonsAfterBattery (p { onlyStarved with noPaper := true }) 145 false = onlyNoPaper
      ∧ (∃ v t, JudgedAfresh (readingTaken 1000 145 (p both)) false v ∧ Resumed v t)
      ∧ (55 : Int) < 90 - ((89 : Byte).toNat * 100 / 255 : Nat) := by
  refine ⟨fun _ _ => ⟨_, .inl ⟨.inl ⟨1, 1, rfl⟩, rfl, rfl⟩⟩, by decide, by decide, by decide, by decide, by decide, by decide,
    by decide, ⟨_, _, .inl ⟨.inl ⟨1, 1, rfl⟩, by decide, rfl⟩, .inr ⟨rfl, rfl⟩⟩, by decide⟩

theorem test_hyp_FiguresByStages : 200 ≤ classB.maxWidth ∧ 8 ≤ classB.maxDots ∧ rest.supply.hotRatio ≤ 100 := by decide

/-- R40's own widest and narrowest heads: 201 µs before the clamp of a class A head at its narrowest, with a hot width of 100 µs;
and 2500 µs, clamped from 3805, of a class D head at its widest. -/
theorem test_width_corners :
    coldWidth { cls := .a, maxWidth := 2500, maxDots := 8 } 9000 70 (-3) false = 201 ∧ hotWidth 201 50 = 100
      ∧ coldWidth { cls := .d, maxWidth := 2500, maxDots := 8 } 5400 (-10) 3 true = 2500 := by decide +kernel

theorem test_hyp_RowsSplitIntoPhases :
    1 ≤ 1 ∧ (burnRow none .phase).marked.Pairwise (· < ·)
      ∧ ∃ d ∈ (burnRow none .phase).marked, d ∉ (burnRow none .phase).burned := by decide

/-- R33 at its corners, as R33's own figures say. -/
theorem test_ceiling_corners :
    ceilingCurrent 5399 = 0 ∧ ceilingCurrent 5400 = 400 ∧ ceilingCurrent 5799 = 799 ∧ ceilingCurrent 5800 = 800
      ∧ ceilingCurrent 6999 = 2398 ∧ ceilingCurrent 7000 = 2400 := by decide

/-! #### The Print Formatter -/

/-- Some more tests of single items: R57 fits three codes and replaces the newest, R58 places FFh as 7Fh, R60 tabs. -/
def typed (codes : List Byte) (s : State) : State := codes.foldl (fun s c => putPrintable c { s with fmt := { s.fmt with
  column := 0 } }) s

theorem test_overstrike :
    ((typed [0x41, 0x42, 0x41, 0x43, 0x44] State.reset).fmt.cursor.cells[0]?).map Cell.codes = some [0x41, 0x42, 0x44] := by
  decide +kernel

theorem test_high_code_is_placed_as_7F :
    ((typed [0x90] State.reset).fmt.cursor.cells[0]?).map Cell.codes = some [0x7F]
      ∧ ((typed [0x8F] State.reset).fmt.cursor.cells[0]?).map Cell.codes = some [0x8F] := by decide +kernel

theorem test_tab_from_8_goes_to_16 :
    (takeItem .ptq (.char 0x09) { State.reset with fmt := { Formatter.reset with column := 8 } }).fmt.column = 16
      ∧ (takeItem .ptq (.char 0x09) { State.reset with fmt := { Formatter.reset with column := 32 } }).fmt.column = 39 := by
  decide +kernel

/-- R46, R55: SEND TEXT to the printer: an item of the print text queue is taken and placed. -/
theorem test_print_text_is_taken :
    let s := left (.printText 0 [0x41]) State.reset
    s.fmt.ptq = [.char 0x41] ∧ s.fmt.owner = .ptq ∧ (left .formatterTakeItem s).fmt.column = 1
      ∧ (left .formatterTakeItem s).fmt.ptq = [] := by decide +kernel

theorem test_hyp_TextDirectivesAndGlyphs :
    (∀ k p, CanTake k p State.reset) ∧ 1 ≤ [(0x41 : Byte)].length ∧ (List.replicate 38 (0x41 : Byte)).length ≤ 38
      ∧ (0x00 : Byte).toNat = 0 ∧ (List.replicate 10 (0x00 : Byte)).length = 10 ∧ 0x80 ≤ (0x80 : Byte).toNat
      ∧ (0x8F : Byte).toNat ≤ 0x8F ∧ (0x7F : Byte).toNat < 0x80 ∧ 0x8F < (0x90 : Byte).toNat :=
  ⟨canTake_reset, by decide, by decide, by decide, by decide, by decide, by decide, by decide, by decide⟩

/-- The fields of a SET FORMAT at their edges: margins 38 and 39, 30 stops, a flush delay of 65535. -/
def edgeFields (left : Byte) (tabs : List Byte) : RawFormat :=
  { left := some left, right := some 39, wrap := some 1, double := some 0, mark := some 39, tabs := some tabs
    formLength := some 255, flushDelay := some 65535 }

theorem test_hyp_SetFormatReadsItsFields :
    (∀ p, CanTake 0x0C p State.reset)
      ∧ (∀ ts ∈ (edgeFields 38 (List.replicate 30 0)).tabs, ts.length ≤ 30)
      ∧ (∀ d ∈ (edgeFields 38 []).flushDelay, d ≤ 65535)
      ∧ FormatGood (edgeFields 38 [8, 16]) ∧ ¬ FormatGood (edgeFields 39 [8, 16])
      ∧ ¬ FormatGood (edgeFields 38 [16, 16]) ∧ ¬ FormatGood (edgeFields 38 (List.replicate 17 0)) :=
  ⟨canTake_reset 0x0C, by decide, by decide, by decide, by decide, by decide, by decide⟩

/-- R86's margins: given alone, given together at the narrowest, and not given. -/
def margins (left right : Option Nat) : FormatFields :=
  { left := left, right := right, wrap := none, double := none, mark := none, tabs := none, formLength := none
    flushDelay := none }

theorem test_hyp_DirectivesAreCarriedOut :
    (∀ f ∈ [margins (some 38) none, margins none (some 0), margins (some 38) (some 39), margins none none],
      ∀ l ∈ f.left, ∀ r ∈ f.right, l < r)
      ∧ State.reset.fmt.stack = []
      ∧ ({ State.reset with fmt := { Formatter.reset with stack := [Layout.reset] } } : State).fmt.stack = [.reset] := by
  decide

theorem test_hyp_DirectivesAreCarriedOut_taken :
    ∀ n, Directive.saveFormat ≠ .feed n ∧ Directive.setFormat (margins none none) ≠ .feed n :=
  fun _ => ⟨Directive.noConfusion, Directive.noConfusion⟩

/-- R86: a left margin of 38 given alone over the right margin 20 becomes 19. -/
theorem test_margin_given_alone :
    (carryDirective (.setFormat (margins (some 38) none))
      { State.reset with fmt := { Formatter.reset with layout := { Layout.reset with right := 20 } } }).fmt.layout.left = 19 := by
  decide +kernel

/-- A formatter that is READY with the owner, the print text queue, the key feed and the row queue's fill given. -/
def readyFor (owner : Owner) (ptq : List Item) (keyFeed : Bool) (rows : Nat) : State :=
  { State.reset with
    fmt := { Formatter.reset with owner := owner, ptq := ptq, keyFeed := keyFeed, lapse := some 2000000 }
    head := { Head.reset none false with queue := List.replicate rows (.feed 12) } }

theorem test_hyp_FormatterTakesItsItem :
    (∀ o p k n, (readyFor o p k n).resetting = none ∧ (readyFor o p k n).fmt.activity = .ready
        ∧ (readyFor o p k n).fmt.owner = o ∧ (readyFor o p k n).fmt.ptq = p ∧ (readyFor o p k n).fmt.keyFeed = k)
      ∧ (readyFor .ptq [.char 0x41] false 32).fmt.needsRoom (.char 0x41) = false
      ∧ (readyFor .key [] true 20).head.queue.length + 12 ≤ 32 :=
  ⟨fun _ _ _ _ => ⟨rfl, rfl, rfl, rfl, rfl⟩, by decide +kernel, by decide⟩

/-- A full window with the cursor on its newest line, where a line advance commits and needs room. -/
def fullWindow (s : State) : State := { s with fmt := { s.fmt with window := List.replicate 4 .fresh, cursorLine := 3 } }

/-- The same, with the formatter STALLED. -/
def stalledWith (s : State) : State := { s with fmt := { s.fmt with activity := .stalled, lapse := none } }

theorem test_hyp_OwnershipAndStalls_grant :
    State.reset.fmt.owner = .none ∧ State.reset.fmt.isDraining = false
      ∧ (readyFor .none [.char 0x41] false 0).fmt.ptq ≠ [] ∧ rxContends (readyFor .none [.char 0x41] false 0) = false
      ∧ keyContends (readyFor .none [.char 0x41] false 0) = false ∧ stqContends (readyFor .none [.char 0x41] false 0) = false
      ∧ keyContends (readyFor .none [] true 0) = true ∧ (readyFor .ptq [] false 0).fmt.owner ≠ .none := by decide +kernel

/-- The lower sources contend too: a received character for PRINT, and a send text character whose route names PRINT. -/
theorem test_hyp_OwnershipAndStalls_sources :
    rxContends { State.reset with router := { Router.reset with
        store := [{ code := 0x41, parityBad := false, framingBad := false }] } } = true
      ∧ stqContends { State.reset with router := { Router.reset with
          stq := [0x41], stqRoute := { line := false, print := true, link := false } } } = true := by decide +kernel

theorem test_hyp_OwnershipAndStalls_stall :
    let s := fullWindow (readyFor .ptq [.char 0x0A] false 21)
    s.fmt.activity = .ready ∧ nextItem s = some (.char 0x0A) ∧ s.fmt.needsRoom (.char 0x0A) = true ∧ 20 < s.head.queue.length
      ∧ (stalledWith s).fmt.activity = .stalled ∧ nextItem (stalledWith s) = some (.char 0x0A)
      ∧ (stalledWith s).fmt.needsRoom (.char 0x0A) = true
      ∧ nextItem (stalledWith (readyFor .ptq [] false 21)) = none
      ∧ (stalledWith (readyFor .ptq [] false 21)).fmt.owner ≠ .none
      ∧ nextItem (stalledWith (readyFor .ptq [.char 0x41] false 21)) = some (.char 0x41)
      ∧ (readyFor .ptq [.char 0x41] false 21).fmt.needsRoom (.char 0x41) = false := by decide +kernel

/-- R48, R157, R161: the next items of RX, with a flagged character, and of KEY, typed in IDLE with LINE alone in its route. -/
theorem test_hyp_OwnershipAndStalls_next :
    let rx : State := { readyFor .rx [] false 0 with router := { Router.reset with
      store := [{ code := 0x41, parityBad := true, framingBad := false }] } }
    let key : State := { readyFor .key [] false 0 with keys := { State.reset.keys with
      queue := [{ code := 0x42, repeated := false }] } }
    rx.fmt.owner = .rx ∧ rx.router.rxRoute.print = true ∧ rx.router.rxRoute.line = false ∧ rx.router.rxRoute.link = false
      ∧ nextItem rx = some (.char 0x7F)
      ∧ key.fmt.owner = .key ∧ key.fmt.keyFeed = false ∧ key.router.keyRoute = { line := true, print := false, link := false }
      ∧ ¬ (OpenCall key ∨ key.conn.state = .test) ∧ nextItem key = some (.char 0x42)
      ∧ nextItem (readyFor .key [] true 0) = some (.char 0x0A) := by decide +kernel

/-- R51: the room has arrived for each owner's item. -/
theorem test_hyp_OwnershipAndStalls_room :
    let key := stalledWith (fullWindow (readyFor .key [] true 20))
    let rx (s : State) : State := { s with router := { Router.reset with
      store := [{ code := 0x0A, parityBad := false, framingBad := false }] } }
    let ptq := stalledWith (fullWindow (readyFor .ptq [.char 0x0A] false 20))
    nextItem key = some (.char 0x0A) ∧ key.fmt.needsRoom (.char 0x0A) = true ∧ key.fmt.keyFeed = true
      ∧ nextItem (rx (stalledWith (fullWindow (readyFor .rx [] false 20)))) = some (.char 0x0A) ∧ ownerOf .rx = .rx
      ∧ nextItem ptq = some (.char 0x0A) ∧ ptq.head.queue.length ≤ 20 ∧ ptq.fmt.ptq = [.char 0x0A] := by decide +kernel

theorem test_hyp_OwnershipAndStalls_timers :
    let inked : State := { State.reset with fmt := { Formatter.reset with
      window := [{ Line.fresh with ink := true }], flush := some 800000 } }
    let clear : State := { State.reset with fmt := { Formatter.reset with flush := some 800000, lapse := some 2000000 } }
    inked.resetting = none ∧ inked.fmt.flush = some 800000 ∧ (∃ l ∈ inked.fmt.window, l.ink = true)
      ∧ clear.fmt.flush = some 800000 ∧ (∀ l ∈ clear.fmt.window, l.ink = false) ∧ clear.fmt.lapse = some 2000000 := by
  decide

theorem test_hyp_ColumnMoves :
    Owner.ptq ≠ .none ∧ State.reset.fmt.layout.tabs.Pairwise (· < ·)
      ∧ ({ State.reset with fmt := { Formatter.reset with column := 40 } } : State).fmt.column
          = State.reset.fmt.layout.right + 1
      ∧ State.reset.fmt.column = State.reset.fmt.layout.left ∧ State.reset.fmt.layout.left < State.reset.fmt.layout.right := by
  decide

/-- A formatter at the column given, wrapping or not, with a form or not. -/
def atColumn (column : Nat) (wrap : Bool) (form : Nat) : State :=
  { State.reset with fmt := { Formatter.reset with
      column := column, layout := { Layout.reset with wrap := wrap }, formLength := form } }

theorem test_hyp_CharactersAreCarriedOut :
    Owner.ptq ≠ .none ∧ (atColumn 0 true 0).fmt.formLength = 0 ∧ 0 < (atColumn 0 true 66).fmt.formLength
      ∧ (atColumn 39 true 0).fmt.fits = true ∧ (atColumn 40 true 0).fmt.fits = false ∧ (atColumn 40 true 0).fmt.layout.wrap = true
      ∧ (atColumn 40 false 0).fmt.layout.wrap = false ∧ (atColumn 40 false 0).fmt.layout.left < 39
      ∧ (0x06 : Byte).toNat ≤ 0x06 ∧ 0x13 ≤ (0x13 : Byte).toNat ∧ (0x1C : Byte).toNat ≤ 0x1C ∧ 0x20 ≤ (0x20 : Byte).toNat := by
  decide +kernel

theorem test_hyp_ColumnMoves_mark :
    Owner.ptq ≠ .none ∧ (atColumn 40 true 0).fmt.column ≤ 40 ∧ (atColumn 39 true 0).fmt.layout.left ≤ 39
      ∧ (atColumn 39 true 0).fmt.column ≤ (atColumn 39 true 0).fmt.layout.right
      ∧ (atColumn 39 true 0).fmt.layout.right ≤ 39 := by decide

theorem test_hyp_LineAdvanceCases :
    let continued : State := { State.reset with fmt := { Formatter.reset with
      window := [{ Line.fresh with continuation := true }] } }
    let older : State := { State.reset with fmt := { Formatter.reset with window := [.fresh, .fresh] } }
    continued.fmt.cursor.continuation = true ∧ continued.fmt.cursor.ink = false
      ∧ ¬ (older.fmt.cursor.continuation = true ∧ older.fmt.cursor.ink = false)
      ∧ older.fmt.cursorLine + 1 < older.fmt.window.length
      ∧ State.reset.fmt.window.length = State.reset.fmt.cursorLine + 1 ∧ State.reset.fmt.window.length < 4
      ∧ (fullWindow State.reset).fmt.window.length = 4 ∧ (fullWindow State.reset).fmt.cursorLine = 3
      ∧ State.reset.head.state ≠ .idle ∧ rest.head.state = .idle ∧ rest.head.waiting = false
      ∧ rest.head.motor = .released ∧ rest.head.queue ++ [.feed 2] = [.feed 2] := by decide +kernel

/-- An IDLE driver with the motor HELD, with the settle period running or over. -/
theorem test_hyp_LineAdvanceCases_held :
    ∀ settle, (waitingRow .held settle []).head.state = .idle ∧ (waitingRow .held settle []).head.waiting = false
      ∧ (waitingRow .held settle []).head.motor = .held ∧ (waitingRow .held settle []).head.settle = settle
      ∧ (waitingRow .held settle []).head.config = some classB
      ∧ (waitingRow .held settle []).head.queue ++ [.burn [3], .feed 2] = [.burn [3], .feed 2] :=
  fun _ => ⟨rfl, rfl, rfl, rfl, rfl, rfl⟩

theorem test_hyp_PrintablePlacesItsCode :
    (0x20 : Byte).toNat ≥ 0x20 ∧ (atColumn 39 true 0).fmt.fits = true
      ∧ (atColumn 39 true 0).fmt.window[(atColumn 39 true 0).fmt.cursorLine]? = some Line.fresh
      ∧ Line.fresh.cells.length = 40 ∧ (atColumn 39 true 0).fmt.layout.right ≤ 39 := by decide +kernel

/-- R76: the line of blank glyphs marks nothing in any row. -/
theorem test_hyp_RasterCoversTwelveRows : ∀ r, r < 10 → dotRow Formatter.reset.soft boxLine r = [] := by decide +kernel

/-- A formatter draining these lines, with this many entries waiting. -/
def drainingWith (d : Drain) (window : List Line) (rows form : Nat) : State :=
  { State.reset with
    fmt := { Formatter.reset with activity := .draining d, window := window, formLength := form }
    head := { Head.reset none false with queue := List.replicate rows (.feed 12) } }

theorem test_hyp_DrainsCommitAndEnd :
    (∀ d w n f, (drainingWith d w n f).resetting = none ∧ (drainingWith d w n f).fmt.activity = .draining d
        ∧ (drainingWith d w n f).fmt.window = w ∧ (drainingWith d w n f).fmt.cursorLine = 0)
      ∧ (drainingWith (.flush 3) [.fresh] 20 0).head.queue.length + 12 ≤ 32
      ∧ (drainingWith (.feed 1 true) [.fresh] 31 0).head.queue.length < 32
      ∧ (Drain.flush 3).committing = true ∧ (Drain.feed 1 false).committing = true ∧ (Drain.formFeed none).committing = true
      ∧ ((0 + 1) % 66 < 66) ∧ [Line.fresh] ≠ [] ∧ [7] ≠ ([] : List Nat)
      ∧ ({ Line.fresh with continuation := true } : Line).continuation = true :=
  ⟨fun _ _ _ _ => ⟨rfl, rfl, rfl, rfl⟩, by decide, by decide, rfl, rfl, rfl, by decide, by decide, by decide, rfl⟩

/-! #### The line and the call -/

/-- A call in the state given, with a carrier heard or not. -/
def call (st : ConnState) (loop : LoopMode) : State :=
  { State.reset with
    conn := { Conn.reset with
      state := st, loop := loop, connectTimer := some 30000000, settleTimer := some 400000, dropoutTimer := some 600000
      clearingTimer := some 250000 } }

theorem canTake_call (st : ConnState) (loop : LoopMode) (k : Byte) (p : List Byte) : CanTake k p (call st loop) :=
  ⟨rfl, .inl ⟨rfl, (by decide : lrdy State.reset = true)⟩⟩

theorem test_hyp_LineAndCarrierSettings :
    (∀ k p, CanTake k p State.reset) ∧ (0x02 : Byte).toNat ≤ 2 ∧ (0x04 : Byte).toNat ≤ 4 ∧ ¬ ((0x03 : Byte).toNat ≤ 2)
      ∧ State.reset.conn.state = .idle ∧ (call .online .normal).conn.state ≠ .idle
      ∧ [Speed.b110, .b150, .b300][(0x00 : Byte).toNat]? = some .b110
      ∧ [Parity.none, .even, .odd, .mark, .space][(0x04 : Byte).toNat]? = some .space
      ∧ 1 < (0x02 : Byte).toNat ∧ (0x01 : Byte).toNat ≤ 1 :=
  ⟨canTake_reset, by decide, by decide, by decide, rfl, by decide, rfl, rfl, by decide, by decide⟩

theorem test_hyp_CallCommandsByState :
    (∀ st loop k p, CanTake k p (call st loop)) ∧ (call .idle .normal).conn.state = .idle
      ∧ (call .fade .normal).conn.state ≠ .idle ∧ OpenCall (call .online .normal) ∧ OpenCall (call .fade .normal)
      ∧ ¬ OpenCall (call .settle .normal) ∧ (call .test .localTone).conn.state = .test
      ∧ 1 < (0x02 : Byte).toNat ∧ 3 < (0x04 : Byte).toNat ∧ (0x03 : Byte).toNat ≤ 3 :=
  ⟨canTake_call, rfl, by decide, .inl rfl, .inr rfl, by decide, rfl, by decide, by decide, by decide⟩

/-- TEST with LOCAL TONE, the wave in its first cell since the moment 0. -/
def ownTone (output : Tone) : State :=
  { call .test .localTone with tone := { output := output, channel := .low, phase := 0, since := 0 } }

theorem test_hyp_HalfPeriodsAreJudged :
    State.reset.resetting = none ∧ State.reset.signal.crossing = none
      ∧ ({ State.reset with signal := { Signal.reset with crossing := some 0 } } : State).signal.crossing = some 0
      ∧ (∀ o, (ownTone o).resetting = none ∧ (ownTone o).tone.output = o ∧ (ownTone o).conn.state = .test
          ∧ (ownTone o).conn.loop = .localTone)
      ∧ (∃ at0, FirstCrossing (ownTone .mark).tone (ownTone .mark).signal.crossing at0)
      ∧ ∃ next, WaveCrosses (ownTone .space).tone 0 ∧ FirstCrossing (ownTone .space).tone (some 0) next :=
  ⟨rfl, rfl, rfl, fun _ => ⟨rfl, rfl, rfl, rfl⟩, ⟨_, Laws.nextCrossing_first _ _ (by decide)⟩,
    ⟨_, ⟨by decide, 0, by decide, by decide⟩, Laws.nextCrossing_first _ _ (by decide)⟩⟩

/-- R98, R132: the part's own mark crosses zero at 446.4 µs and 892.8 µs, which is one half-period of 446 µs, classified MARK on
the low channel; whatever time the sender gives. -/
theorem test_own_wave :
    let s := left (.halfPeriodEnd 0) (ownTone .mark)
    let t := left (.halfPeriodEnd 999) { s with signal := { s.signal with lineMark := false } }
    s.now = 447 ∧ s.signal.lineMark = Signal.reset.lineMark ∧ t.now = 893
      ∧ t.signal.lineMark = true := by decide +kernel

/-- A Deframer in the state given, on the line state given. -/
def hearing (d : Deframer) (mark : Bool) : State :=
  { call .online .normal with signal := { Signal.reset with deframer := d, lineMark := mark } }

/-- The characters finished in the reset format: A with good parity and stop, A with a bad stop, and a 00h with a bad stop. -/
theorem test_hyp_CharactersAreFinished :
    (∀ d m, (hearing d m).resetting = none ∧ (hearing d m).signal.deframer = d ∧ (hearing d m).signal.lineMark = m)
      ∧ ([] : List Bool).length + 1 < cellTotal .reset ∧ (List.replicate 9 false).length + 1 = cellTotal .reset
      ∧ (∀ i, i < 8 → (0x41 : Byte).getLsbD i = [true, false, false, false, false, false, true].getD i false)
      ∧ (∀ i, i < 8 → (0x00 : Byte).getLsbD i = [false, false, false, false, false, false, false].getD i false)
      ∧ true ∉ [false, false, false, false, false, false, false] ∧ true ∈ [true, false, false, false, false, false, true] :=
  ⟨fun _ _ => ⟨rfl, rfl, rfl⟩, by decide, by decide, by decide, by decide, by decide, by decide⟩

/-- A Framer with the character, the flow slot, the queue and the timers given. -/
def framing (st : ConnState) (loop : LoopMode) (f : Option FramedChar) (slot : Option FlowCode) (tx : List Byte) (held : Bool) :
    State :=
  { call st loop with
    signal := { Signal.reset with framer := f }
    router := { Router.reset with slot := slot, txQueue := tx, remoteHeld := held } }

theorem test_hyp_FramerSendsCells :
    (∀ st l f slot tx h, (framing st l f slot tx h).resetting = none ∧ (framing st l f slot tx h).signal.framer = f
        ∧ (framing st l f slot tx h).signal.breakTimer = none ∧ (framing st l f slot tx h).signal.markTimer = none
        ∧ (framing st l f slot tx h).conn.state = st ∧ (framing st l f slot tx h).conn.loop = l
        ∧ (framing st l f slot tx h).router.slot = slot ∧ (framing st l f slot tx h).router.txQueue = tx
        ∧ (framing st l f slot tx h).router.remoteHeld = h)
      ∧ OpenCall (framing .online .normal none none [0x41] false)
      ∧ 8 + 1 < cellTotal .reset ∧ 9 + 1 = cellTotal .reset ∧ LoopMode.normal ≠ .localChar
      ∧ ({ call .online .normal with signal := { Signal.reset with breakTimer := some 250000 } } : State).signal.breakTimer
          = some 250000
      ∧ ({ call .online .normal with signal := { Signal.reset with markTimer := some 3333 } } : State).signal.markTimer
          = some 3333 :=
  ⟨fun _ _ _ _ _ _ => ⟨rfl, rfl, rfl, rfl, rfl, rfl, rfl, rfl, rfl⟩, .inl rfl, by decide, by decide, by decide, rfl, rfl⟩

theorem test_hyp_FramedCharacterReadsBack :
    (hearing (.assembling 0 [] false) false).signal.deframer = .assembling 0 [] false := rfl

/-- The three changes of output, and none: IDLE and SILENT; ONLINE and SILENT; IDLE and MARK; ONLINE with SPACE. -/
theorem test_hyp_TonesFollowTheirCauses :
    State.reset.tone.output = .silent ∧ wantedTone State.reset = .silent
      ∧ wantedTone (call .online .normal) = .mark ∧ (call .online .normal).tone.output = .silent
      ∧ wantedTone { State.reset with tone := { ToneGen.reset with output := .mark } } = .silent
      ∧ wantedTone { call .online .normal with tone := { ToneGen.reset with output := .space } } = .mark
      ∧ (call .test .localTone).conn.state = .test ∧ (call .test .localTone).conn.loop = .localTone
      ∧ ((call .online .normal).conn.state ≠ .test ∨ (call .online .normal).conn.loop ≠ .localTone) := by decide

/-- A window about to end, with these counts and runs, while the carrier is PRESENT or ABSENT. -/
def windowOf (total inBand : Nat) (present : Bool) (qualifying badRun lowRun : Nat) : State :=
  { State.reset with
    monitor := { Monitor.reset with
      total := total, inBand := inBand, window := some 10000, present := present, qualifying := qualifying, badRun := badRun
      lowRun := lowRun }
    supply := { Supply.reset with level := { code := 40, valid := true } } }

theorem test_hyp_WindowsAreJudged :
    ∀ t b p q r l, (windowOf t b p q r l).resetting = none ∧ (windowOf t b p q r l).monitor.window = some 10000
      ∧ (windowOf t b p q r l).monitor.present = p := fun _ _ _ _ _ _ => ⟨rfl, rfl, rfl⟩

/-- R113 to R117 at the edges: 40 halves of which 30 are in band are good, 39 of which 29 are not; the fifteenth good window
in a row makes the carrier PRESENT, and the sixth bad one makes it ABSENT. -/
theorem test_windows_at_the_edges :
    (left .carrierWindowEnd (windowOf 40 30 false 14 0 0)).monitor.present = true
      ∧ (left .carrierWindowEnd (windowOf 40 30 false 13 0 0)).monitor.qualifying = 14
      ∧ (left .carrierWindowEnd (windowOf 39 29 false 14 0 0)).monitor.qualifying = 0
      ∧ (left .carrierWindowEnd (windowOf 39 29 true 0 5 0)).monitor.present = false
      ∧ (left .carrierWindowEnd (windowOf 39 29 true 0 4 0)).monitor.badRun = 5 := by decide +kernel

theorem test_hyp_CallMoves :
    (∀ st l, (call st l).conn.state = st ∧ (call st l).resetting = none ∧ (call st l).conn.connectTimer = some 30000000
        ∧ (call st l).conn.settleTimer = some 400000 ∧ (call st l).conn.dropoutTimer = some 600000
        ∧ (call st l).conn.clearingTimer = some 250000)
      ∧ (call .clearing .normal).conn.state ∉ [.waitAnswer, .answering, .fade]
      ∧ (call .settle .normal).conn.state ≠ .online :=
  ⟨fun _ _ => ⟨rfl, rfl, rfl, rfl, rfl, rfl⟩, by decide, by decide⟩

/-! #### The Traffic Router -/

theorem test_hyp_RouterCommands :
    (∀ k p, CanTake k p State.reset) ∧ (0x06 : Byte).toNat ∈ [0, 2, 4, 6] ∧ (0x01 : Byte).toNat ∉ [0, 2, 4, 6]
      ∧ (0x07 : Byte).toNat < 8 ∧ (0x03 : Byte).toNat < 4 ∧ (0x01 : Byte).toNat ≤ 1 ∧ (0x13 : Byte) ≠ 0x11
      ∧ decide ((0x01 : Byte) = 0x01) = State.reset.router.flowOn ∧ State.reset.router.flowOn = true
      ∧ SlotAgrees State.reset ∧ 2 < (0x03 : Byte).toNat
      ∧ ({ State.reset with router := { Router.reset with flowOn := false } } : State).router.flowOn = false :=
  ⟨canTake_reset, by decide, by decide, by decide, by decide, by decide, by decide, by decide, rfl, by decide, by decide, rfl⟩

/-- A call with something waiting at each source and the transmit queue this long. -/
def loaded (st : ConnState) (queued : Nat) : State :=
  { call st .normal with
    router := { Router.reset with
      store := [{ code := 0x41, parityBad := true, framingBad := false }], stq := [0x42]
      txQueue := List.replicate queued 0x43 }
    keys := { Keys.reset with queue := [{ code := 0x44, repeated := false }] } }

/-- R163: with one place free KEY takes it before STQ; in IDLE the KEY character goes to PRINT instead. -/
theorem test_hyp_SourcesAreTaken :
    (loaded .online 7).resetting = none ∧ OpenCall (loaded .online 7) ∧ ¬ (OpenCall (loaded .idle 7) ∨ ConnState.idle = .test)
      ∧ (loaded .online 7).router.store ≠ [] ∧ ready .rx (loaded .online 7) = true ∧ ready .key (loaded .online 7) = true
      ∧ ready .stq (loaded .online 7) = false ∧ ready .key (loaded .online 8) = false
      ∧ ready .stq { loaded .online 7 with keys := Keys.reset } = true
      ∧ headCode .rx (loaded .online 7) = some 0x7F ∧ headCode .key (loaded .online 7) = some 0x44
      ∧ headCode .stq (loaded .online 7) = some 0x42 := by decide +kernel

theorem test_hyp_ArrivalsAreJudged :
    State.reset.router.flowOn = true ∧ State.reset.router.holdCode = 0x13 ∧ State.reset.router.resumeCode = 0x11
      ∧ State.reset.resetting = none ∧ State.reset.router.store.length < 32
      ∧ 32 ≤ (List.replicate 32 ({ code := 0x41, parityBad := false, framingBad := false } : RxChar)).length
      ∧ ({ State.reset with router := { Router.reset with remoteTimer := some 30000000 } } : State).router.remoteTimer
          = some 30000000 := by decide

/-- An open call with this many characters in a store of depth 32. -/
def filled (fill : Nat) (holdSent : Bool) (slot : Option FlowCode) : State :=
  { call .online .normal with
    router := { Router.reset with
      store := List.replicate fill { code := 0x41, parityBad := false, framingBad := false }
      holdSent := holdSent, slot := slot } }

/-- R170 at the marks: 24 wants a hold and 23 does not; 8 wants none and 9 leaves it as it is. -/
theorem test_hyp_LocalHoldIsJudged :
    SlotAgrees (filled 24 false none) ∧ holdJudged (filled 24 false none) = true
      ∧ (filled 24 false none).router.store.length = 24 ∧ SlotAgrees (filled 8 true none)
      ∧ (filled 8 true none).router.store.length = 8
      ∧ SlotAgrees (filled 8 true (some { kind := .hold, code := 0x13 }))
      ∧ (judgeHold (filled 23 false none)).router.holdSent = false ∧ (judgeHold (filled 24 false none)).router.holdSent = true
      ∧ (judgeHold (filled 9 true none)).router.holdSent = true ∧ (judgeHold (filled 8 true none)).router.holdSent = false := by
  decide +kernel

/-! #### The keyboard -/

theorem test_hyp_KeyCommandsAndTimers :
    (∀ k p, CanTake k p State.reset) ∧ 1 < (0x02 : Byte).toNat ∧ (0x01 : Byte).toNat ≤ 1
      ∧ 1 ≤ [((0x01 : Byte), (0x41 : Byte), (0x03 : Byte))].length ∧ (0x03 : Byte).toNat < 4
      ∧ (0x47 : Byte).toNat + [((0x01 : Byte), (0x41 : Byte), (0x03 : Byte))].length ≤ 72
      ∧ (List.replicate 12 ((0x00 : Byte), (0x00 : Byte), (0x00 : Byte))).length ≤ 12
      ∧ (∀ l ∈ [Layer.plain, .shift, .ctrl, .fn], (State.reset.keys.keymap.layer l).length = 72) :=
  ⟨canTake_reset, by decide, by decide, by decide, by decide, by decide, by decide, by decide +kernel⟩

theorem test_hyp_KeyCommandsAndTimers_timers :
    let s : State := { State.reset with keys := { State.reset.keys with
      repeatTimer := some 500000, repeatCode := some 0x41, beeper := some { since := 0, due := 150000 } } }
    s.resetting = none ∧ s.keys.repeatTimer = some 500000 ∧ s.keys.repeatCode = some 0x41
      ∧ s.keys.beeper = some { since := 0, due := 150000 } ∧ Owner.ptq ≠ .none := ⟨rfl, rfl, rfl, rfl, by decide⟩

/-- R151: 2 kHz since the moment 0: away from its level for 250 µs, at it for 250 µs, away again. -/
theorem test_beep_wave :
    let at' : Micros → State := fun n =>
      { State.reset with now := n, keys := { State.reset.keys with beeper := some { since := 0, due := 150000 } } }
    [0, 249, 250, 499, 500].map (fun n => beepAway (at' n)) = [true, true, false, false, true] := by decide

/-- R136: a chain of one key, and one of three. -/
theorem test_hyp_MatrixReadsChains :
    Chain [14, 15, 32] 1 5 ∧ Chain [14, 15, 32] 3 6 ∧ 3 < 8 ∧ 6 < 9 ∧ 3 * 9 + 5 ∈ [14, 15, 32] ∧ 1 * 9 + 5 ∈ [14, 15, 32]
      ∧ 1 * 9 + 6 ∈ [14, 15, 32] :=
  ⟨.direct 5 (by decide) (by decide),
    .through 6 5 1 (.direct 5 (by decide) (by decide)) (by decide) (by decide) (by decide) (by decide),
    by decide, by decide, by decide, by decide, by decide⟩

/-- The two passes a reading can fall in. -/
def scanning (first : Bool) (line : Nat) : State :=
  { State.reset with keys := { State.reset.keys with firstPass := first, scanLine := line } }

theorem test_hyp_ScanReadingsAreDebounced :
    (∀ f l, (scanning f l).resetting = none ∧ (scanning f l).keys.slot = some 500 ∧ (scanning f l).keys.firstPass = f
        ∧ (scanning f l).keys.scanLine = l)
      ∧ (scanning false 7).keys.records.length = 72 ∧ (scanning false 7).keys.scanLine < 8
      ∧ (∀ p < 72, (scanning false 7).keys.records[p]? = some KeyRecord.reset) :=
  ⟨fun _ _ => ⟨rfl, rfl, rfl, rfl⟩, by decide, by decide, by decide +kernel⟩

/-- A keyboard with these records at positions 0 and 3, the keymap as at reset. -/
def pressed (r : KeyRecord) (n : Nat) : State :=
  { State.reset with keys := { State.reset.keys with
      records := (List.replicate n { KeyRecord.reset with down := true, role := .nonModifier }) ++ [r]
        ++ List.replicate (71 - n) .reset } }

theorem test_hyp_KeyEdgesAct :
    let down : KeyRecord := { KeyRecord.reset with down := true }
    (pressed down 0).keys.records[0]? = some down ∧ (pressed down 6).keys.records[6]? = some down
      ∧ (∃ m, (State.reset.keys.keymap.entry .plain 36).kind = .modifier m)
      ∧ (∀ m, (State.reset.keys.keymap.entry .plain 0).kind ≠ .modifier m)
      ∧ ((pressed down 6).keys.records.filter fun r => r.down && decide (r.role = .nonModifier)).length = 6
      ∧ ((pressed down 5).keys.records.filter fun r => r.down && decide (r.role = .nonModifier)).length < 6
      ∧ (State.reset.keys.keymap.entry .plain 0).kind = .char 0x31
      ∧ (State.reset.keys.keymap.entry .ctrl 0).kind = .none
      ∧ (State.reset.keys.keymap.entry .fn 0).kind = .action .sendBreak
      ∧ (State.reset.keys.keymap.entry .fn 1).kind = .action .feed
      ∧ (State.reset.keys.keymap.entry .fn 2).kind = .action .pause := by
  refine ⟨by decide, by decide, ⟨.lock, by decide +kernel⟩, ?_, by decide +kernel, by decide +kernel, by decide +kernel,
    by decide +kernel, by decide +kernel, by decide +kernel, by decide +kernel⟩
  intro m h
  have e : (State.reset.keys.keymap.entry .plain 0).kind = .char 0x31 := by decide +kernel
  rw [e] at h
  cases h

/-- The ways a layer is chosen: FN held; CTRL held; SHIFT held; none held with the lock on a letter; none. -/
theorem test_hyp_KeyEdgesAct_layers :
    let holding (role : KeyRole) : List KeyRecord := ({ KeyRecord.reset with down := true, role := role } : KeyRecord)
      :: List.replicate 71 .reset
    (∀ role ∈ [KeyRole.fn, .ctrl, .shift], ∃ r' ∈ holding role, r'.down = true ∧ r'.role = role)
      ∧ (¬ ∃ r' ∈ State.reset.keys.records, r'.down = true ∧ r'.role = .fn)
      ∧ (State.reset.keys.keymap.entry .plain 13).lockable = true ∧ State.reset.keys.lock = false := by decide +kernel

/-- R143, R141: a repeat key's key-up, and three corners of a rectangle down. -/
theorem test_hyp_KeyEdgesAct_edges :
    let down : KeyRecord := { KeyRecord.reset with down := true, role := .nonModifier }
    let k : Keys := { State.reset.keys with
      records := (((List.replicate 72 KeyRecord.reset).set 14 down).set 15 down).set 32 down, repeatKey := some 14 }
    k.records[14]? = some down ∧ down.refused = false ∧ down.role = .nonModifier ∧ k.repeatKey = some 14
      ∧ k.isGhost 33 = true ∧ k.isGhost 34 = false := by decide +kernel

/-! #### Frames byte by byte, and what every step keeps -/

/-- C3h 13h 01h 00h, waiting byte by byte; with LRDY low it waits on the state in which a RESTART is owed. -/
def arriving (s : State) : State :=
  { s with pending := [.leadByte 3, .frameByteReceived 521 0x13, .frameByteReceived 521 0x01, .frameByteReceived 9999 0x00,
      .connect 521 [0x00]] }

theorem test_hyp_FrameBytesMakeACommand :
    (arriving State.reset).resetting = none ∧ (arriving State.reset).link.receiver = .outside ∧ [(0x00 : Byte)].length ≤ 40
      ∧ (∀ b ∈ [((521 : Micros), (0x13 : Byte)), (521, 0x01), (9999, 0x00)], b.1 < 10000)
      ∧ [((521 : Micros), (0x13 : Byte)), (521, 0x01), (9999, 0x00)].map Prod.snd = 0x13 :: BitVec.ofNat 8 1 :: [0x00]
      ∧ lrdy (arriving State.reset) = true ∧ lrdy (arriving busy) = false := by decide

/-- The whole frame, byte by byte and then its command, is answered DONE and begins the call. -/
theorem test_whole_frame :
    (stepsTo 5 (arriving State.reset)).map (fun t => (t.link.replies, t.conn.state, t.now))
      = some ([.done 0x13], .waitAnswer, 11565) := by decide +kernel

theorem resetQueuesFit : QueuesFit State.reset := by decide
theorem resetSlotAgrees : SlotAgrees State.reset := by decide
theorem resetSettingsOk : SettingsOk State.reset := by decide
theorem resetCountersFit : CountersFit State.reset := by decide
theorem resetWireOk : WireOk State.reset := by decide
theorem resetFormatterOk : FormatterOk State.reset :=
  ⟨by decide, by decide, by decide, by decide +kernel, fun _ h => absurd h List.not_mem_nil, by decide, by decide,
    by decide, by decide, by decide⟩
theorem resetDriverOk : DriverOk State.reset := by decide
theorem resetRowsOk : RowsOk State.reset := ⟨by decide, by decide, by decide, by decide, by decide⟩
theorem resetConnectionOk : ConnectionOk State.reset := by decide
theorem resetKeyboardOk : KeyboardOk State.reset := by decide +kernel

/-- What waits has no part in soundness, so the reset state with a frame's bytes waiting is sound, and its step takes one. This
is the witness of the six statements that rest on soundness. -/
theorem test_hyp_invariants : ∃ t, Sound (arriving State.reset) ∧ step (arriving State.reset) = .next t
    ∧ t.link.receiver = .inside true [] :=
  ⟨_, ⟨resetQueuesFit, resetSlotAgrees, resetSettingsOk, resetCountersFit, resetWireOk, resetFormatterOk, resetDriverOk,
    resetRowsOk, resetConnectionOk, resetKeyboardOk⟩, rfl, rfl⟩

/-- A row with a phase in hand and entries after it is sound. -/
theorem test_rows_in_hand : RowsOk (pulsing true [3]) ∧ RowsOk (pulsing false [3, 4]) ∧ RowsOk energizing
    ∧ (pulsing true [3]).head.phase ≠ none ∧ energizing.head.row ≠ none :=
  ⟨⟨by decide, by decide, by decide, by decide, by decide⟩, ⟨by decide, by decide, by decide, by decide, by decide⟩,
    ⟨by decide, by decide, by decide +kernel, by decide, by decide⟩, by decide, by decide⟩

theorem test_hyp_HeadConfigurationStands :
    rest.head.config = some classB ∧ (∀ dt, Instr.printText 0 [] ≠ .powerUpReset dt) ∧ State.reset.head.config = none
      ∧ ({ State.reset with resetting := none } : State).head.config = none
      ∧ (left (.setHead 0 [0x01, 0xD0, 0x07, 0x20]) State.reset).head.config = some classB :=
  ⟨rfl, fun _ => Instr.noConfusion, rfl, rfl, by decide +kernel⟩

/-- ONLINE in HOLD SENT, its code not yet sent. -/
def holding : State :=
  let s := framing .online .normal none (some { kind := .hold, code := 0x13 }) [] false
  { s with
    conn := { Conn.reset with state := .online }
    router := { s.router with holdSent := true }
    pending := [.framerTake] }

/-- R107, R171: the hold is sent and a resume comes next; and a call that ends begins anew with a hold. -/
theorem test_hyp_FlowCodesAlternate :
    SlotAgrees holding ∧ ConnectionOk holding ∧ holding.pending = [.framerTake]
      ∧ (∃ t, step holding = .next t ∧ ¬ beginsAnew .framerTake holding t)
      ∧ flowSent .framerTake holding = some .hold ∧ nextFlow (left .framerTake holding) = .resume
      ∧ beginsAnew (.powerUpReset 0) State.reset State.reset ∧ flowSent (.identify 0 []) holding = none :=
  ⟨by decide, by decide, rfl, ⟨_, rfl, by
    rintro (⟨_, h | h⟩ | ⟨_, h⟩ | ⟨_, h⟩)
    exacts [Instr.noConfusion h, Instr.noConfusion h, absurd h (by decide), absurd h (by decide)]⟩, by decide, by decide +kernel,
    .inl ⟨0, .inl rfl⟩, by decide⟩

end Sys2Proof.Tests
end

section
/-!
SUPPORT. The invariants that every step keeps, block by block: what each says of its own block alone. A step's operations
touch few blocks each, so each is shown to keep the blocks it touches, and the others stand.
-/

namespace Sys2Proof.Steps

open Sys2Proof.Machine Sys2Proof.Safety

/-- R177, R181, R193: the Link Port's queue, counters and frame are within their bounds. `free` places of the reply queue are
kept free, besides the one that a ready frame being received is to find: one while a command is carried out, none else. -/
structure LinkKept (free : Nat) (k : LinkPort) : Prop where
  replies : k.replies.length + free ≤ 4
  room : receiving k.receiver = true → k.replies.length + free ≤ 3
  stray : k.strayBytes ≤ 65535
  unready : k.unreadyFrames ≤ 65535
  torn : k.tornFrames ≤ 65535
  wire : ∀ f ∈ k.tx, FrameOk f.bytes

/-- R41: the density settings stand within their ranges. -/
structure SupplyKept (u : Supply) : Prop where
  density : -3 ≤ u.density ∧ u.density ≤ 3
  ratio : 50 ≤ u.hotRatio ∧ u.hotRatio ≤ 100 ∧ u.hotRatio % 5 = 0

/-- R5 to R9, R15, R17, R18: `DriverOk`, which looks at the Head Driver alone, with a name for each of its parts. -/
structure DriverSound (h : Head) : Prop where
  unset : h.config = none ↔ h.state = .unconfigured
  bare : h.state = .unconfigured → h.motor = .released ∧ h.row = none ∧ h.waiting = false
  phase : h.phase.isSome → h.state = .burning ∧ h.waiting = false
  step : h.step.isSome ↔ h.motor = .stepping
  stepping : h.step.isSome → h.state = .stepping ∧ h.waiting = false
  energize : h.energize.isSome ↔ h.motor = .energizing
  energizing : h.energize.isSome → h.state = .energizing ∧ h.waiting = false
  hold : h.hold.isSome → h.motor = .held ∧ (h.state = .idle ∨ h.state = .paused) ∧ h.waiting = false
  held : h.state = .burning ∨ h.state = .settling ∨ h.waiting = true → h.motor = .held
  reasons : h.reasons.any = true → h.state = .paused
  position : h.position < 4
  boost : h.boostRows ≤ 2

/-- R3, R4, R12, R38, R40: what `RowsOk` says of the Head Driver. -/
structure RowsSound (h : Head) : Prop where
  entries : ∀ e ∈ h.queue, EntryOk e
  burn : ∀ r ∈ burnInHand h.row, BurnRowOk r
  feed : ∀ f ∈ feedInHand h.row, 1 ≤ f.2 ∧ f.2 ≤ f.1 ∧ f.1 ≤ 255
  phase : ∀ p ∈ h.phase, ∃ c ∈ h.config, ∃ r ∈ burnInHand h.row, PhaseOk c r p

/-- R1: a head configuration within its ranges. -/
abbrev ConfigOk (c : HeadConfig) : Prop := (200 ≤ c.maxWidth ∧ c.maxWidth ≤ 2500) ∧ 8 ≤ c.maxDots ∧ c.maxDots ≤ 80

/-- R1 to R18, R193: the Head Driver's configuration, queue, counters, driver and rows are sound. -/
structure HeadKept (h : Head) : Prop where
  config : ∀ c ∈ h.config, ConfigOk c
  cap : h.queue.length ≤ 32
  rowsBurned : h.rowsBurned ≤ 65535
  phasesBurned : h.phasesBurned ≤ 65535
  driver : DriverSound h
  rows : RowsSound h

/-- R53, R80, R88, R90: the Print Formatter's window, queues and owed FEED entries are within their bounds. -/
structure FmtKept (f : Formatter) : Prop where
  opened : 1 ≤ f.window.length
  cap : f.window.length ≤ 4
  cursor : f.cursorLine < f.window.length
  ptq : f.ptq.length ≤ 64
  stack : f.stack.length ≤ 4
  owed : ∀ n ∈ owedFeeds f.activity, 1 ≤ n ∧ n ≤ 255
  feeds : ∀ it ∈ f.ptq, ∀ n ∈ rowsOf it, 1 ≤ n ∧ n ≤ 255

/-- R96: a character format that SET LINE can leave. -/
structure FormatKept (f : LineFormat) : Prop where
  parity : f.parity = .none → f.eightBits = true
  stops : f.speed = .b110 → f.twoStops = true

/-- R193: the signal path's counters are within their bounds. -/
structure SignalKept (g : Signal) : Prop where
  received : g.received ≤ 65535
  muted : g.muted ≤ 65535

/-- R119: the settings of the connection stand within their ranges. -/
structure MonitorKept (m : Monitor) : Prop where
  dropout : 200 ≤ m.dropoutHold ∧ m.dropoutHold ≤ 2000
  connect : 10 ≤ m.connectTimeout ∧ m.connectTimeout ≤ 60

/-- R171: the flow slot agrees with the local hold state. -/
abbrev FlowAgrees (r : Router) : Prop := ∀ f ∈ r.slot, (f.kind = .hold ↔ r.holdSent = true)

/-- R159, R162, R164, R166, R168, R171, R193: the Router's queues under the format `f`, its flow slot, settings and counters. -/
structure RouterKept (f : LineFormat) (r : Router) : Prop where
  stq : r.stq.length ≤ 64
  tx : r.txQueue.length ≤ 8
  store : r.store.length ≤ storeDepth f
  rxData : r.rxData.length ≤ 32
  keyData : r.keyData.length ≤ 16
  slot : FlowAgrees r
  codes : r.holdCode ≠ r.resumeCode
  timeout : r.holdTimeout = 0 ∨ (5 ≤ r.holdTimeout ∧ r.holdTimeout ≤ 120)
  parityErrors : r.parityErrors ≤ 65535
  framingErrors : r.framingErrors ≤ 65535
  overruns : r.overruns ≤ 65535
  discards : r.discards ≤ 65535
  echoDrops : r.echoDrops ≤ 65535

/-- R150, R152, R193: the Keyboard Scanner's queue, settings and counters. -/
structure KeysKept (k : Keys) : Prop where
  queue : k.queue.length ≤ 16
  debounce : 2 ≤ k.debounce ∧ k.debounce ≤ 8
  delay : 250 ≤ k.repeatDelay ∧ k.repeatDelay ≤ 1000
  rate : 5 ≤ k.repeatRate ∧ k.repeatRate ≤ 20
  lost : k.keysLost ≤ 65535
  ghosts : k.ghosts ≤ 65535

/-- Every block is kept. -/
structure Kept (free : Nat) (s : State) : Prop where
  link : LinkKept free s.link
  supply : SupplyKept s.supply
  head : HeadKept s.head
  fmt : FmtKept s.fmt
  format : FormatKept s.format
  signal : SignalKept s.signal
  monitor : MonitorKept s.monitor
  router : RouterKept s.format s.router
  keys : KeysKept s.keys

theorem DriverSound.iff_driverOk {s : State} : DriverSound s.head ↔ DriverOk s :=
  ⟨fun ⟨h1, h2, h3, h4, h5, h6, h7, h8, h9, h10, h11, h12⟩ => ⟨h1, h2, h3, h4, h5, h6, h7, h8, h9, h10, h11, h12⟩,
    fun ⟨h1, h2, h3, h4, h5, h6, h7, h8, h9, h10, h11, h12⟩ => ⟨h1, h2, h3, h4, h5, h6, h7, h8, h9, h10, h11, h12⟩⟩

namespace Kept

variable {s : State}

theorem queuesFit (h : Kept 0 s) : QueuesFit s :=
  ⟨h.head.cap, ⟨h.fmt.opened, h.fmt.cap, h.fmt.cursor⟩, h.fmt.ptq, h.fmt.stack, h.router.stq, h.router.tx, h.router.store,
    h.router.rxData, h.router.keyData, h.keys.queue, h.link.replies, h.link.room⟩

theorem slotAgrees (h : Kept 0 s) : SlotAgrees s := h.router.slot

theorem settingsOk (h : Kept 0 s) : SettingsOk s :=
  ⟨h.head.config, h.supply.density, h.supply.ratio, h.format.parity, h.format.stops, h.monitor.dropout, h.monitor.connect,
    h.keys.debounce, h.keys.delay, h.keys.rate, h.router.codes, h.router.timeout⟩

theorem countersFit (h : Kept 0 s) : CountersFit s :=
  ⟨h.head.rowsBurned, h.head.phasesBurned, h.signal.received, h.signal.muted, h.router.parityErrors,
    h.router.framingErrors, h.router.overruns, h.router.discards, h.router.echoDrops, h.keys.lost, h.keys.ghosts,
    h.link.stray, h.link.unready, h.link.torn⟩

theorem wireOk (h : Kept 0 s) : WireOk s := h.link.wire

theorem driverOk (h : Kept 0 s) : DriverOk s := DriverSound.iff_driverOk.1 h.head.driver

theorem rowsOk (h : Kept 0 s) : RowsOk s :=
  ⟨h.head.rows.entries, h.fmt.owed, h.head.rows.burn, h.head.rows.feed, h.head.rows.phase⟩

end Kept

/-- A sound state keeps every block. -/
theorem Kept.of_sound {s : State} (h : Sound s) : Kept 0 s := by
  obtain ⟨⟨hrow, ⟨hw1, hw4, hcur⟩, hptq, hstack, hstq, htx, hstore, hrx, hkd, hkq, hrep, hroom⟩, hslot,
    ⟨hcfg, hden, hrat, hpar, hstop, hdrop, hconn, hdeb, hdel, hrate, hcode, htime⟩,
    ⟨c1, c2, c3, c4, c5, c6, c7, c8, c9, c10, c11, c12, c13, c14⟩, hwire, ⟨_, _, _, _, hitems, _⟩, hdrv,
    ⟨hent, howed, hburn, hfeed, hphase⟩, _, _⟩ := h
  exact
    { link := ⟨hrep, hroom, c12, c13, c14, hwire⟩
      supply := ⟨hden, hrat⟩
      head := ⟨hcfg, hrow, c1, c2, DriverSound.iff_driverOk.2 hdrv, ⟨hent, hburn, hfeed, hphase⟩⟩
      fmt := ⟨hw1, hw4, hcur, hptq, hstack, howed, fun it hit => (hitems it hit).2⟩
      format := ⟨hpar, hstop⟩
      signal := ⟨c3, c4⟩
      monitor := ⟨hdrop, hconn⟩
      router := ⟨hstq, htx, hstore, hrx, hkd, hslot, hcode, htime, c5, c6, c7, c8, c9⟩
      keys := ⟨hkq, hdeb, hdel, hrate, c10, c11⟩ }

end Sys2Proof.Steps
end

section
/-!
The phase limit and the pulse widths: O22, and the bounds that the row invariant needs (R36 to R43).
-/

namespace Sys2Proof.Steps

open Sys2Proof.Machine Sys2Proof.Safety

/-- R39: the temperature factor is the rule's own number, which the clamp keeps positive. -/
theorem cast_temperatureFactor (t : Int) :
    ((temperatureFactor t : Nat) : Int) = 100 - (max (-10) (min 70 t) - 25) := by
  unfold temperatureFactor
  omega

/-- R39, R42: the last two stages of the cold width, the density and the boost, on the width `a3` before them. -/
def densityStages (a3 : Nat) (density : Int) (boosted : Bool) : Int :=
  let a4 := (a3 : Int) * (100 + 6 * density) / 100
  if boosted then a4 * 112 / 100 else a4

/-- R39, R41: a density so low that its factor is negative, which no setting makes it, gives a width the clamp hides. -/
theorem max_min_densityStages (a3 w : Nat) (density : Int) (boosted : Bool) :
    max 100 (min (w : Int) (densityStages a3 density boosted))
      = max 100 (min (w : Int) (if boosted then a3 * densityFactor density / 100 * 112 / 100
          else a3 * densityFactor density / 100 : Nat)) := by
  unfold densityStages densityFactor
  rcases le_or_gt 0 (100 + 6 * density) with hpos | hneg
  · have e : ((100 + 6 * density).toNat : Int) = 100 + 6 * density := Int.toNat_of_nonneg hpos
    split <;> push_cast <;> rw [e]
  · have hzero : (100 + 6 * density).toNat = 0 := Int.toNat_of_nonpos hneg.le
    have hprod : (a3 : Int) * (100 + 6 * density) ≤ 0 := mul_nonpos_of_nonneg_of_nonpos (by omega) hneg.le
    rw [hzero]
    dsimp only
    split <;> omega

/-- R39: the cold width by the rule's stages. -/
theorem cast_coldWidth (cfg : HeadConfig) (v : Nat) (t density : Int) (boosted : Bool) :
    ((coldWidth cfg v t density boosted : Nat) : Int)
      = max 100 (min (cfg.maxWidth : Int) (densityStages
          (cfg.cls.baseWidth * temperatureFactor t / 100 * 7200 / clampedVoltage v * 7200 / clampedVoltage v)
          density boosted)) := by
  rw [max_min_densityStages]
  exact (Nat.cast_max _ _).trans (congrArg (max 100) (Nat.cast_min _ _))

/-- R39, R40, R43: the widths lie from 100 µs to the maximum pulse width, the hot one never above the cold one. -/
theorem figures_widths (cfg : HeadConfig) (n : Nat) (s : State) (hw : (200 : Nat) ≤ cfg.maxWidth) (hr : s.supply.hotRatio ≤ 100) :
    (100 : Nat) ≤ (figures cfg n s).hot ∧ (figures cfg n s).hot ≤ (figures cfg n s).cold
      ∧ (figures cfg n s).cold ≤ cfg.maxWidth := by
  have hcold : (100 : Nat) ≤ (figures cfg n s).cold ∧ (figures cfg n s).cold ≤ cfg.maxWidth :=
    ⟨Nat.le_max_left _ _, Nat.max_le.2 ⟨by omega, Nat.min_le_left _ _⟩⟩
  have hhot : (figures cfg n s).hot = max 100 ((figures cfg n s).cold * s.supply.hotRatio / 100) := rfl
  have hpart : (figures cfg n s).cold * s.supply.hotRatio / 100 ≤ (figures cfg n s).cold :=
    Nat.div_le_of_le_mul (by rw [Nat.mul_comm 100]; exact Nat.mul_le_mul_left _ hr)
  rw [hhot]
  exact ⟨Nat.le_max_left _ _, Nat.max_le.2 ⟨hcold.1, hpart⟩, hcold.2⟩

/-- R37: the phase limit is capped at the maximum dots per phase. -/
theorem figures_limit (cfg : HeadConfig) (n : Nat) (s : State) :
    (figures cfg n s).limit
      = min (freeCurrent (iMax s) (carrierOn s.conn) / dotCurrent cfg.cls (millivolts s.supply.battery.code)) cfg.maxDots :=
  rfl

/-- R1: a class's resistance and base width. -/
theorem class_table (cls : HeadClass) :
    (cls.ohms, cls.baseWidth) = match cls with
      | .a => (120, 700)
      | .b => (150, 850)
      | .c => (180, 1000)
      | .d => (220, 1200) := by
  cases cls <;> rfl

/-- Settles O22: `figures_limit`, `cast_coldWidth` and `figures_widths`, stage by stage. -/
theorem figuresByStages : Obligations.FiguresByStages := by
  refine ⟨fun cfg boostRows s => ?_, fun cfg n s hw hr => figures_widths cfg n s hw hr⟩
  intro f table vc dot free degrees kT a1 a3 a4 a5
  have htable : table = (cfg.cls.ohms, cfg.cls.baseWidth) := (class_table cfg.cls).symm
  have hohms : 1 ≤ cfg.cls.ohms := by cases cfg.cls <;> decide
  have hvolts : clampedVoltage (millivolts s.supply.battery.code) = vc := by
    simp only [clampedVoltage, millivolts, vc, Nat.mul_comm]
  have hdot : dotCurrent cfg.cls (millivolts s.supply.battery.code) = dot := by
    simp only [dotCurrent, hvolts, dot, htable, Nat.add_sub_assoc hohms]
  have hlimit : f.limit = min (free / dot) cfg.maxDots := by
    rw [figures_limit, hdot]; rfl
  have hkT : ((temperatureFactor (celsius s.supply.temp.code) : Nat) : Int) = kT := cast_temperatureFactor _
  have ha3 : ((cfg.cls.baseWidth * temperatureFactor (celsius s.supply.temp.code) / 100 * 7200 / vc * 7200 / vc : Nat) : Int)
      = a3 := by
    push_cast [hkT]
    simp only [a3, a1, htable]
  have hcold : (f.cold : Int) = max 100 (min (cfg.maxWidth : Int) a5) := by
    refine (cast_coldWidth cfg _ _ _ _).trans ?_
    rw [hvolts]
    simp only [densityStages, ha3, a5, a4, Bool.and_eq_true, decide_eq_true_eq]
  have hdraw : free / dot * dot ≤ free := Nat.div_mul_le_self _ _
  refine ⟨hlimit, hcold, rfl, ?_, ?_⟩
  · rw [hlimit]
    exact (Nat.mul_le_mul_right _ (Nat.min_le_left _ _)).trans hdraw
  · rw [hlimit]
    omega

end Sys2Proof.Steps
end

section
/-!
SUPPORT. What the flags, the judgements and each change of the driver keep of the block invariants.
-/

namespace Sys2Proof.Steps

open Sys2Proof.Machine Sys2Proof.Safety

variable {free : Nat} {s : State} {h : Head} {r : BurnRow}

/-! ### The Link Port's flags and the Supply Monitor's judgements -/

theorem LinkKept.setLatch {k : LinkPort} (hk : LinkKept free k) (l : Latch) : LinkKept free (k.setLatch l) := by
  unfold LinkPort.setLatch
  split
  · exact hk
  · exact ⟨hk.replies, hk.room, hk.stray, hk.unready, hk.torn, hk.wire⟩

theorem LinkKept.setLatchIf {k : LinkPort} (hk : LinkKept free k) (c : Prop) [Decidable c] (l : Latch) :
    LinkKept free (if c then k.setLatch l else k) := by
  split
  · exact hk.setLatch l
  · exact hk

theorem after_kept (hs : Kept free s) (dt : Micros) : Kept free (after dt s) := { hs with }

theorem atMoment_kept (hs : Kept free s) (t : Micros) : Kept free (atMoment t s) := { hs with }

theorem setLatch_kept (hs : Kept free s) (l : Latch) : Kept free (setLatch l s) := { hs with link := hs.link.setLatch l }

theorem setLatchIf_kept (hs : Kept free s) (b : Bool) (l : Latch) : Kept free (setLatchIf b l s) :=
  { hs with link := hs.link.setLatchIf _ l }

theorem judgeStarved_kept (hs : Kept free s) (b : Bool) : Kept free (judgeStarved b s) :=
  { hs with supply := ⟨hs.supply.density, hs.supply.ratio⟩, link := hs.link.setLatchIf _ _ }

theorem recordFigures_kept (hs : Kept free s) (f : Figures) : Kept free (recordFigures f s) :=
  { hs with supply := ⟨hs.supply.density, hs.supply.ratio⟩ }

/-! ### The driver's states -/

/-- R6: the driver may make a start: it is configured, the motor is HELD, and no phase and no hold timer runs. -/
structure Poised (h : Head) : Prop where
  set : h.config ≠ none
  held : h.motor = .held
  still : h.phase = none
  quiet : h.hold = none

namespace DriverSound

/-- R10, R14: a start that waits. -/
theorem wait (d : DriverSound h) (p : Poised h) : DriverSound { h with waiting := true } := by
  cases d; cases p; constructor <;> grind

/-- R18: the driver enters PAUSED. -/
theorem pause (d : DriverSound h) (p : Poised h) (why : Reasons) (t : Nat) :
    DriverSound { h with state := .paused, reasons := why, waiting := false, hold := some t } := by
  cases d; cases p; constructor <;> grind

/-- R15: a step begins. -/
theorem beginStep (d : DriverSound h) (p : Poised h) (n t : Nat) (hist : List Nat) :
    DriverSound { h with state := .stepping, reasons := .none, waiting := false, position := n % 4
                         motor := .stepping, step := some t, history := hist } := by
  cases d; cases p; constructor <;> grind [Reasons.any, Reasons.none]

/-- R12: a phase is loaded. -/
theorem beginPhase (d : DriverSound h) (p : Poised h) (row : Option CurrentRow) (n : Nat) (hn : n ≤ 2) (ph : Phase) :
    DriverSound { h with state := .burning, reasons := .none, waiting := false, row := row, boostRows := n
                         phase := some ph } := by
  cases d; cases p; constructor <;> grind [Reasons.any, Reasons.none]

/-- R6: BURNING is entered for a phase start. -/
theorem enterBurning (d : DriverSound h) (set : h.config ≠ none) (held : h.motor = .held) :
    DriverSound { h with state := .burning, reasons := .none, hold := none } := by
  cases d; constructor <;> grind [Reasons.any, Reasons.none]

/-- R17: SETTLING is entered. -/
theorem enterSettling (d : DriverSound h) (set : h.config ≠ none) (held : h.motor = .held) (still : h.phase = none) :
    DriverSound { h with state := .settling, reasons := .none, waiting := false, hold := none } := by
  cases d; constructor <;> grind [Reasons.any, Reasons.none]

/-- R9: the hold timer is stopped. -/
theorem stopHold (d : DriverSound h) : DriverSound { h with hold := none } := by
  cases d; constructor <;> grind

/-- R8: the driver enters ENERGIZING. -/
theorem enterEnergizing (d : DriverSound h) (set : h.config ≠ none) (released : h.motor = .released)
    (_still : h.phase = none) (t : Nat) :
    DriverSound { h with state := .energizing, reasons := .none, waiting := false, hold := none, motor := .energizing
                         energize := some t } := by
  cases d; constructor <;> grind [Reasons.any, Reasons.none]

/-- R4: the driver looks at its row, its queue and its history nowhere but while it is not configured. -/
theorem setRow (d : DriverSound h) (set : h.config ≠ none) (row : Option CurrentRow) (q : List RowEntry) :
    DriverSound { h with row := row, queue := q } := by
  cases d; constructor <;> grind

/-- R4, R9: a row cycle ends in IDLE. -/
theorem enterIdle (d : DriverSound h) (p : Poised h) (awake : h.waiting = false) (calm : h.reasons.any = false) (t : Nat) :
    DriverSound { h with state := .idle, row := none, hold := some t } := by
  cases d; cases p; constructor <;> grind

/-- R15: a step ends with the motor HELD. -/
theorem endStep (d : DriverSound h) (running : h.step.isSome) : DriverSound { h with step := none, motor := .held } := by
  cases d; constructor <;> grind

/-- R8: ENERGIZING ends with the motor HELD. -/
theorem endEnergizing (d : DriverSound h) (running : h.energize.isSome) :
    DriverSound { h with energize := none, motor := .held } := by
  cases d; constructor <;> grind

/-- R9: the hold timer ends and the motor is RELEASED. -/
theorem endHold (d : DriverSound h) (running : h.hold.isSome) : DriverSound { h with hold := none, motor := .released } := by
  cases d; constructor <;> grind

/-- R12: a pulse ends. -/
theorem endPulse (d : DriverSound h) (t : Option Nat) (n : Nat) :
    DriverSound { h with phase := none, lastPulse := t, phasesBurned := n } := by
  cases d; constructor <;> grind

/-- R19: reasons are removed from a pause. -/
theorem setReasons (d : DriverSound h) (paused : h.state = .paused) (why : Reasons) :
    DriverSound { h with reasons := why } := by
  cases d; constructor <;> grind

/-- R5: the configuration is set and the driver becomes IDLE. -/
theorem configure (d : DriverSound h) (unset : h.config = none) (c : HeadConfig) :
    DriverSound { h with config := some c, state := .idle } := by
  cases d; constructor <;> grind

/-- R23: a reset. -/
theorem reset (c : Option HeadConfig) (paper : Bool) : DriverSound (.reset c paper) := by
  cases c <;> constructor <;> simp [Head.reset, Reasons.any, Reasons.none]

/-- R12: a phase runs in BURNING, configured, with the motor HELD, no hold timer, and no start waiting. -/
theorem of_phase (d : DriverSound h) (hp : h.phase ≠ none) :
    h.config ≠ none ∧ h.motor = .held ∧ h.hold = none ∧ h.waiting = false := by
  cases d; grind [Option.isSome_iff_ne_none]

/-- R15: a step runs in STEPPING, configured, with no phase, no hold timer, no start waiting and no reason. -/
theorem of_step (d : DriverSound h) (hp : h.step ≠ none) :
    h.config ≠ none ∧ h.phase = none ∧ h.hold = none ∧ h.waiting = false ∧ h.reasons.any = false := by
  cases d; grind [Option.isSome_iff_ne_none]

/-- R8: ENERGIZING is entered by a configured driver with no phase. -/
theorem of_energize (d : DriverSound h) (hp : h.energize ≠ none) : h.config ≠ none ∧ h.phase = none := by
  cases d; grind [Option.isSome_iff_ne_none]

/-- R10, R14: a start waits with the motor HELD and no phase. -/
theorem of_waiting (d : DriverSound h) (hw : h.waiting = true) :
    h.config ≠ none ∧ h.motor = .held ∧ h.phase = none := by
  cases d; grind [Option.isSome_iff_ne_none]

/-- A driver that is IDLE, PAUSED or SETTLING is configured, has no phase, and its motor is RELEASED or HELD. -/
theorem of_resting (d : DriverSound h) (hs : h.state = .idle ∨ h.state = .paused ∨ h.state = .settling) :
    h.config ≠ none ∧ h.phase = none ∧ (h.motor = .released ∨ h.motor = .held) := by
  cases d; cases hm : h.motor <;> grind [Option.isSome_iff_ne_none]

/-- R5: a driver that is not configured has no row and no phase, and its motor is RELEASED. -/
theorem of_unset (d : DriverSound h) (hc : h.config = none) :
    h.row = none ∧ h.phase = none ∧ h.motor = .released := by
  cases d; grind [Option.isSome_iff_ne_none]

end DriverSound
end Sys2Proof.Steps
end

section
/-!
SUPPORT. The Head Driver's operations keep the block invariants: phases, starts, row cycles and readings (R3 to R31).
-/

namespace Sys2Proof.Steps

open Sys2Proof.Machine Sys2Proof.Safety

variable {free : Nat} {s : State} {h h' : Head} {r : BurnRow} {cfg : HeadConfig}

/-! ### Rows -/

theorem mem_unburned {d : Nat} : d ∈ r.unburned ↔ d ∈ r.marked ∧ d ∉ r.burned := by
  simp [BurnRow.unburned]

/-- R12, R38: while a dot is unburned, a phase under a limit of 1 or more holds unburned dots of the row, and at most that many. -/
theorem pack_sound (hm : r.marked.Pairwise (· < ·)) (hu : ∃ d ∈ r.marked, d ∉ r.burned) (hot : List Nat) {n : Nat}
    (hn : 1 ≤ n) :
    r.pack hot n ≠ [] ∧ (r.pack hot n).length ≤ n ∧ (r.pack hot n).Nodup
      ∧ ∀ d ∈ r.pack hot n, d ∈ r.marked ∧ d ∉ r.burned := by
  obtain ⟨chosen, hpack, hsub, hmem, hne⟩ : ∃ l : List Nat, r.pack hot n = l.take n ∧ l.Sublist r.marked
      ∧ (∀ d ∈ l, d ∈ r.marked ∧ d ∉ r.burned) ∧ l ≠ [] := by
    by_cases hc : r.coldLeft hot = []
    · refine ⟨r.hotLeft hot, by simp [BurnRow.pack, BurnRow.inCold, hc], List.filter_sublist, ?_, ?_⟩
      · simp +contextual [BurnRow.hotLeft]
      · obtain ⟨d, hd, hb⟩ := hu
        have hhot : d ∈ hot := by
          by_contra hcold
          have : d ∈ r.coldLeft hot := by simp [BurnRow.coldLeft, hd, hb, hcold]
          simp [hc] at this
        exact List.ne_nil_of_mem (a := d) (by simp [BurnRow.hotLeft, hd, hb, hhot])
    · refine ⟨r.coldLeft hot, by simp [BurnRow.pack, BurnRow.inCold, hc], List.filter_sublist, ?_, hc⟩
      simp +contextual [BurnRow.coldLeft]
  have hnodup : r.marked.Nodup := hm.imp Nat.ne_of_lt
  rw [hpack]
  refine ⟨?_, List.length_take_le _ _, (hnodup.sublist hsub).sublist (List.take_sublist _ _), ?_⟩
  · simp [hne]; omega
  · exact fun d hd => hmem d (List.mem_of_mem_take hd)

/-- R12: the phase's dots join the burned set: the row is sound, with its next start by what is left of it. -/
theorem burnedBy_sound {c : HeadConfig} {p : Phase} (hr : BurnRowOk r) (hp : PhaseOk c r p) :
    r.next = .phase
      ∧ ((r.burnedBy p.dots).unburned ≠ [] → BurnRowOk (r.burnedBy p.dots))
      ∧ ((r.burnedBy p.dots).unburned = [] → BurnRowOk { r.burnedBy p.dots with next := .step }) := by
  obtain ⟨hdots, hnodup, hsub, hnext⟩ := hr
  obtain ⟨hne, -, hpn, hpm, -⟩ := hp
  obtain ⟨d, hd⟩ := List.exists_mem_of_ne_nil _ hne
  have hphase : r.next = .phase := hnext.2 ⟨d, hpm d hd⟩
  have hnodup' : (r.burned ++ p.dots).Nodup :=
    List.nodup_append.2 ⟨hnodup, hpn, fun a ha b hb hab => (hpm b hb).2 (hab ▸ ha)⟩
  have hsub' : ∀ e ∈ r.burned ++ p.dots, e ∈ r.marked := fun e he =>
    (List.mem_append.1 he).elim (hsub e) fun h => (hpm e h).1
  refine ⟨hphase, fun hleft => ⟨hdots, hnodup', hsub', ?_⟩, fun hdone => ⟨hdots, hnodup', hsub', ?_⟩⟩
  · obtain ⟨e, he⟩ := List.exists_mem_of_ne_nil _ hleft
    exact iff_of_true hphase ⟨e, mem_unburned.1 he⟩
  · refine iff_of_false (by simp) fun ⟨e, he⟩ => ?_
    have : e ∈ (r.burnedBy p.dots).unburned := mem_unburned.2 he
    simp [hdone] at this

/-- R3, R4: a queue entry makes a sound row. -/
theorem record_sound {e : RowEntry} (he : EntryOk e) :
    (∀ r ∈ burnInHand (some e.record), BurnRowOk r)
      ∧ ∀ f ∈ feedInHand (some e.record), 1 ≤ f.2 ∧ f.2 ≤ f.1 ∧ f.1 ≤ 255 := by
  obtain ⟨hburn, hfeed⟩ := he
  cases e with
  | burn dots =>
    have hd : DotsOk dots := hburn dots rfl
    obtain ⟨d, hmem⟩ := List.exists_mem_of_ne_nil _ hd.1
    refine ⟨?_, by simp [RowEntry.record, feedInHand]⟩
    rintro r ⟨rfl⟩
    exact ⟨hd, List.nodup_nil, by simp, iff_of_true rfl ⟨d, hmem, List.not_mem_nil⟩⟩
  | feed n => simpa [RowEntry.record, burnInHand, feedInHand] using hfeed n rfl

/-! ### The Head Driver -/

/-- A change of the driver alone. -/
theorem HeadKept.drive (k : HeadKept h) (d : DriverSound h') (hconfig : h'.config = h.config) (hqueue : h'.queue = h.queue)
    (hrow : h'.row = h.row) (hphase : h'.phase = h.phase) (hrows : h'.rowsBurned = h.rowsBurned)
    (hphases : h'.phasesBurned = h.phasesBurned) : HeadKept h' where
  config := hconfig ▸ k.config
  cap := hqueue ▸ k.cap
  rowsBurned := hrows ▸ k.rowsBurned
  phasesBurned := hphases ▸ k.phasesBurned
  driver := d
  rows := ⟨hqueue ▸ k.rows.entries, hrow ▸ k.rows.burn, hrow ▸ k.rows.feed, by
    rw [hphase, hconfig, hrow]; exact k.rows.phase⟩

/-- A new row in hand, while no phase runs. -/
theorem HeadKept.setRow (k : HeadKept h) (set : h.config ≠ none) (still : h.phase = none) {row : Option CurrentRow}
    (hburn : ∀ r ∈ burnInHand row, BurnRowOk r)
    (hfeed : ∀ f ∈ feedInHand row, 1 ≤ f.2 ∧ f.2 ≤ f.1 ∧ f.1 ≤ 255) : HeadKept { h with row := row } :=
  { k with driver := k.driver.setRow set row h.queue
           rows := ⟨k.rows.entries, hburn, hfeed, by simp [still]⟩ }

/-! ### Starts -/

theorem enterPaused_kept (k : Kept free s) (p : Poised s.head) (why : Reasons) : Kept free (enterPaused why s) := by
  have e : enterPaused why s = { s with head := { s.head with
      state := .paused, reasons := why, waiting := false, hold := some (s.now + Config.holdTime) } } := by
    simp [enterPaused, p.held]
  rw [e]
  exact { k with head := k.head.drive (k.head.driver.pause p why _) rfl rfl rfl rfl rfl rfl }

theorem waitStart_kept (k : Kept free s) (p : Poised s.head) : Kept free (waitStart s) :=
  { k with head := k.head.drive (k.head.driver.wait p) rfl rfl rfl rfl rfl rfl }

theorem beginStep_kept (k : Kept free s) (p : Poised s.head) (b : Bool) : Kept free (beginStep b s) :=
  { k with head := k.head.drive (k.head.driver.beginStep p _ _ _) rfl rfl rfl rfl rfl rfl }

theorem stepStart_kept (k : Kept free s) (p : Poised s.head) (b : Bool) : Kept free (stepStart b s) := by
  have k1 (w : Reasons) : Kept free (setLatchIf w.noPaper .paperOut (judgeStarved w.starved s)) :=
    setLatchIf_kept (judgeStarved_kept k _) _ _
  unfold stepStart
  split
  · dsimp only
    split
    · exact enterPaused_kept (k1 _) p _
    · exact beginStep_kept (k1 _) p b
  · exact waitStart_kept k p

/-- R12, R38, R40: the phase that is loaded is sound. -/
theorem loadPhase_kept (k : Kept free s) (p : Poised s.head) (hc : s.head.config = some cfg) (hr : BurnRowOk r)
    (hn : r.next = .phase) {n : Nat} (hb : n ≤ 2) {f : Figures} (hl : 1 ≤ f.limit) (hl' : f.limit ≤ cfg.maxDots)
    (hw : (100 : Nat) ≤ f.hot ∧ f.hot ≤ f.cold ∧ f.cold ≤ cfg.maxWidth) : Kept free (loadPhase r n f s) := by
  have hrow := hr
  obtain ⟨⟨-, hascending, -⟩, -, -, hphase⟩ := hr
  obtain ⟨hne, hlen, hnodup, hmem⟩ := pack_sound hascending (hphase.1 hn) (r.hot.getD (splitHot r.marked s)) hl
  have hwidth (b : Bool) : (100 : Nat) ≤ (if b then f.cold else f.hot) ∧ (if b then f.cold else f.hot) ≤ cfg.maxWidth := by
    obtain ⟨h1, h2, h3⟩ := hw
    cases b
    · exact ⟨h1, h2.trans h3⟩
    · exact ⟨h1.trans h2, h3⟩
  refine { k with head := { k.head with
    driver := k.head.driver.beginPhase p _ n hb _
    rows := ⟨k.head.rows.entries, ?_, ?_, ?_⟩ } }
  · simpa [loadPhase, burnInHand] using hrow
  · simp [loadPhase, feedInHand]
  · rintro ph ⟨rfl⟩
    exact ⟨cfg, hc, _, rfl, hne, hlen.trans hl', hnodup, hmem, hwidth _⟩

theorem boostAtStart_le (k : Kept free s) : boostAtStart r s ≤ 2 := by
  unfold boostAtStart
  split
  · exact le_rfl
  · exact k.head.driver.boost

theorem phaseRefusal_any (n : Nat) (s : State) :
    (phaseRefusal n s).any = true ↔ s.supply.hot = true ∨ s.supply.batteryLow = true ∨ n < 4 := by
  simp only [phaseRefusal, Reasons.any, limitStarved, Bool.or_false, Bool.or_eq_true, decide_eq_true_eq]
  tauto

theorem phaseStart_kept (k : Kept free s) (p : Poised s.head) (hc : s.head.config = some cfg) (hr : BurnRowOk r)
    (hn : r.next = .phase) : Kept free (phaseStart cfg r s) := by
  have k1 (f : Figures) : Kept free (judgeStarved (limitStarved f.limit) (recordFigures f s)) :=
    judgeStarved_kept (recordFigures_kept k f) _
  have hcfg : ConfigOk cfg := k.head.config cfg hc
  unfold phaseStart
  split
  · dsimp only
    split
    · exact enterPaused_kept (k1 _) p _
    · next hwhy =>
      have hlimit : 4 ≤ (figures cfg (boostAtStart r s) s).limit := by
        by_contra hlow
        exact hwhy ((phaseRefusal_any _ s).2 (.inr (.inr (Nat.lt_of_not_le hlow))))
      refine loadPhase_kept (k1 _) p hc hr hn (boostAtStart_le k) (by omega) ?_ ?_
      · rw [figures_limit]; exact Nat.min_le_right _ _
      · obtain ⟨⟨hwidth, -⟩, -⟩ := hcfg
        obtain ⟨-, hratio, -⟩ := k.supply.ratio
        exact figures_widths cfg _ s hwidth hratio
  · exact waitStart_kept k p

/-! ### Row cycles -/

/-- R6: a driver with the motor HELD makes its start; with no row, or with no configuration, there is none to make. -/
theorem proceed_kept (k : Kept free s) (held : s.head.motor = .held) (still : s.head.phase = none) : Kept free (proceed s) := by
  have set : s.head.row ≠ none → s.head.config ≠ none := fun hrow hc => hrow (k.head.driver.of_unset hc).1
  have kStop : Kept free { s with head := { s.head with hold := none } } :=
    { k with head := k.head.drive k.head.driver.stopHold rfl rfl rfl rfl rfl rfl }
  unfold proceed
  split
  · next r hrow =>
    have hr : BurnRowOk r := k.head.rows.burn r (by rw [hrow]; rfl)
    have hset := set (by simp [hrow])
    split
    · next hn =>
      split
      · exact { k with head := k.head.drive (k.head.driver.enterSettling hset held still) rfl rfl rfl rfl rfl rfl }
      · split
        · next cfg hc =>
          refine phaseStart_kept ?_ ⟨hset, held, still, rfl⟩ hc hr hn
          exact { k with head := k.head.drive (k.head.driver.enterBurning hset held) rfl rfl rfl rfl rfl rfl }
        · exact k
    · exact stepStart_kept kStop ⟨hset, held, still, rfl⟩ false
  · next hrow => exact stepStart_kept kStop ⟨set (by simp [hrow]), held, still, rfl⟩ true
  · exact k

/-- R6: a driver between rows looks at its motor. -/
theorem approach_kept (k : Kept free s) (set : s.head.config ≠ none) (still : s.head.phase = none)
    (rests : s.head.motor = .released ∨ s.head.motor = .held) : Kept free (approach s) := by
  unfold approach
  split
  · next released =>
    exact { k with head := k.head.drive (k.head.driver.enterEnergizing set released still _) rfl rfl rfl rfl rfl rfl }
  · next hm => exact proceed_kept k (rests.resolve_left hm) still

theorem beginRow_kept (k : Kept free s) (set : s.head.config ≠ none) (still : s.head.phase = none)
    (rests : s.head.motor = .released ∨ s.head.motor = .held) : Kept free (beginRow s) := by
  unfold beginRow
  split
  · exact k
  · next e rest hq =>
    have hcap : (e :: rest).length ≤ 32 := hq ▸ k.head.cap
    have hent : ∀ x ∈ e :: rest, EntryOk x := hq ▸ k.head.rows.entries
    obtain ⟨hburn, hfeed⟩ := record_sound (hent e List.mem_cons_self)
    refine approach_kept ?_ set still rests
    exact { k with head := { k.head with
      cap := (Nat.le_succ _).trans hcap
      driver := k.head.driver.setRow set _ _
      rows := ⟨fun x hx => hent x (List.mem_cons_of_mem _ hx), hburn, hfeed, by simp [still]⟩ } }

theorem endRow_kept (k : Kept free s) (p : Poised s.head) (awake : s.head.waiting = false)
    (calm : s.head.reasons.any = false) : Kept free (endRow s) := by
  have kRow : Kept free { s with head := { s.head with row := none } } :=
    { k with head := k.head.setRow p.set p.still (by simp [burnInHand]) (by simp [feedInHand]) }
  unfold endRow
  split
  · exact { kRow with head := kRow.head.drive (k.head.driver.enterIdle p awake calm _) rfl rfl rfl rfl rfl rfl }
  · exact beginRow_kept kRow p.set p.still (.inr p.held)

/-- R3: sound entries that find room join the row queue. -/
theorem appendEntries_kept (k : Kept free s) {es : List RowEntry} (hes : ∀ e ∈ es, EntryOk e)
    (room : s.head.queue.length + es.length ≤ 32) : Kept free (appendEntries es s) := by
  have kq : Kept free { s with head := { s.head with queue := s.head.queue ++ es } } :=
    { k with head := { k.head with
      cap := by simpa using room
      driver := { k.head.driver with }
      rows := ⟨fun e he => (List.mem_append.1 he).elim (k.head.rows.entries e) (hes e), k.head.rows.burn,
        k.head.rows.feed, k.head.rows.phase⟩ } }
  unfold appendEntries
  dsimp only
  split
  · next hidle =>
    obtain ⟨set, still, rests⟩ := k.head.driver.of_resting (.inl hidle.1)
    exact beginRow_kept kq set still rests
  · exact kq

/-! ### The ends of pulses, steps and timers -/

theorem endLoading_kept (k : Kept free s) {p : Phase} (hp : s.head.phase = some p) : Kept free (endLoading p s) := by
  have hphase := k.head.rows.phase p hp
  exact { k with head := { k.head with
    driver := { k.head.driver with phase := fun _ => k.head.driver.phase (by simp [hp]) }
    rows := ⟨k.head.rows.entries, k.head.rows.burn, k.head.rows.feed, by rintro q ⟨rfl⟩; exact hphase⟩ } }

theorem countUp_le (n : Nat) : countUp n ≤ 65535 := Nat.min_le_right _ _

theorem countUpBy_le (k n : Nat) : countUpBy k n ≤ 65535 := Nat.min_le_right _ _

/-- R13: a row whose dots are all burned is complete. -/
theorem completeRow_kept (k : Kept free s) (p : Poised s.head) (hr : BurnRowOk { r with next := .step }) :
    Kept free (completeRow r s) := by
  have kRow := k.head.setRow (row := some (.burn { r with next := .step })) p.set p.still
    (by rintro q ⟨rfl⟩; exact hr) (by simp [feedInHand])
  unfold completeRow
  refine stepStart_kept ?_ ?_ false
  · exact { k with head := { kRow with
      rowsBurned := countUp_le _
      driver := { kRow.driver with boost := (Nat.sub_le _ _).trans kRow.driver.boost }
      rows := { kRow.rows with } } }
  · exact ⟨p.set, p.held, p.still, p.quiet⟩

/-- R12, R13: a pulse ends: the row goes on to its next phase start, or is complete and makes its step start. -/
theorem endPulse_kept (k : Kept free s) {p : Phase} (hp : s.head.phase = some p) : Kept free (endPulse p s) := by
  obtain ⟨c, hc, r, hr, hphase⟩ := k.head.rows.phase p hp
  obtain ⟨set, held, quiet, -⟩ := k.head.driver.of_phase (by simp [hp])
  obtain ⟨hnext, hmore, hdone⟩ := burnedBy_sound (k.head.rows.burn r hr) hphase
  have kEnd : Kept free { s with head := { s.head with
      phase := none, lastPulse := some s.now, phasesBurned := countUp s.head.phasesBurned } } :=
    { k with head := { k.head with
      phasesBurned := countUp_le _
      driver := k.head.driver.endPulse _ _
      rows := ⟨k.head.rows.entries, k.head.rows.burn, k.head.rows.feed, by simp⟩ } }
  unfold endPulse
  dsimp only
  split
  · next r' hrow =>
    obtain rfl : r = r' := by simpa [hrow, burnInHand, eq_comm] using hr
    split
    · next hempty =>
      have kDone := completeRow_kept kEnd ⟨set, held, rfl, quiet⟩ (hdone hempty)
      exact kDone
    · next hleft =>
      split
      · next cfg hcfg =>
        refine phaseStart_kept ?_ ?_ hcfg (hmore hleft) hnext
        · exact { kEnd with
            head := kEnd.head.setRow set rfl (by rintro q ⟨rfl⟩; exact hmore hleft) (by simp [feedInHand]) }
        · exact ⟨set, held, rfl, quiet⟩
      · next hcfg => exact absurd hcfg set
  · exact kEnd

/-- R15: a step ends. -/
theorem endStep_kept (k : Kept free s) (running : s.head.step ≠ none) : Kept free (endStep s) := by
  obtain ⟨set, still, quiet, awake, calm⟩ := k.head.driver.of_step running
  have k1 : Kept free { s with head := { s.head with step := none, motor := .held } } :=
    { k with head := k.head.drive (k.head.driver.endStep (Option.isSome_iff_ne_none.2 running)) rfl rfl rfl rfl rfl rfl }
  unfold endStep
  dsimp only
  split
  · exact endRow_kept k1 ⟨set, rfl, still, quiet⟩ awake calm
  · next count left hrow =>
    obtain ⟨h1, h2, h3⟩ := k.head.rows.feed (count, left) (by rw [hrow]; rfl)
    split
    · refine endRow_kept { k1 with head := k1.head.drive { k1.head.driver with } rfl rfl rfl rfl rfl rfl }
        ⟨set, rfl, still, quiet⟩ awake calm
    · next hleft =>
      have kRow := k1.head.setRow (row := some (.feed count (left - 1))) set still (by simp [burnInHand])
        (by rintro f ⟨rfl⟩; dsimp only at *; omega)
      refine stepStart_kept ?_ ?_ true
      · exact { k1 with head := kRow }
      · exact ⟨set, rfl, still, quiet⟩
  · exact k1

theorem endEnergizing_kept (k : Kept free s) (running : s.head.energize ≠ none) : Kept free (endEnergizing s) := by
  obtain ⟨-, still⟩ := k.head.driver.of_energize running
  have d := k.head.driver.endEnergizing (Option.isSome_iff_ne_none.2 running)
  exact proceed_kept { k with head := k.head.drive d rfl rfl rfl rfl rfl rfl } rfl still

theorem endHold_kept (k : Kept free s) (running : s.head.hold ≠ none) : Kept free (endHold s) :=
  { k with head := k.head.drive (k.head.driver.endHold (Option.isSome_iff_ne_none.2 running)) rfl rfl rfl rfl rfl rfl }

theorem endSettle_kept (k : Kept free s) : Kept free (endSettle s) := by
  have k1 : Kept free { s with head := { s.head with settle := none } } :=
    { k with head := k.head.drive { k.head.driver with } rfl rfl rfl rfl rfl rfl }
  unfold endSettle
  dsimp only
  split
  · next hs =>
    obtain ⟨-, still, -⟩ := k.head.driver.of_resting (.inr (.inr hs))
    exact proceed_kept k1 (k.head.driver.held (.inr (.inl hs))) still
  · exact k1

/-! ### Pauses, readings and the paper sensor -/

/-- R19, R21: reasons leave a pause, and with the last the driver resumes. -/
theorem removeReasons_kept (k : Kept free s) (gone : Reasons) : Kept free (removeReasons gone s) := by
  unfold removeReasons
  split
  · next hs =>
    obtain ⟨set, still, rests⟩ := k.head.driver.of_resting (.inr (.inl hs))
    have kWhy (why : Reasons) : HeadKept { s.head with reasons := why } :=
      k.head.drive (k.head.driver.setReasons hs why) rfl rfl rfl rfl rfl rfl
    dsimp only
    split
    · have kq := kWhy .none
      exact approach_kept { k with head := kq.drive kq.driver.stopHold rfl rfl rfl rfl rfl rfl } set still rests
    · exact { k with head := kWhy _ }
  · exact k

theorem rejudge_kept (k : Kept free s) : Kept free (rejudge s) := by
  unfold rejudge
  split
  · split
    · exact judgeStarved_kept k _
    · split
      · refine judgeStarved_kept ?_ _
        exact { k with supply := ⟨k.supply.density, k.supply.ratio⟩ }
      · exact k
  · exact k

theorem retryStart_kept (k : Kept free s) : Kept free (retryStart s) := by
  unfold retryStart
  split
  · next hw =>
    obtain ⟨-, held, still⟩ := k.head.driver.of_waiting hw
    exact proceed_kept k held still
  · exact k

theorem endConversion_kept (k : Kept free s) (code : Byte) : Kept free (endConversion code s) := by
  have k0 : Kept free { s with supply := { s.supply with
      channel := s.supply.channel.next, conversion := some (s.now + Config.conversionTime) } } :=
    { k with supply := ⟨k.supply.density, k.supply.ratio⟩ }
  unfold endConversion
  dsimp only
  split
  · refine retryStart_kept (removeReasons_kept (rejudge_kept ?_) _)
    exact { k0 with supply := ⟨k.supply.density, k.supply.ratio⟩, link := k.link.setLatchIf _ _ }
  · refine retryStart_kept (removeReasons_kept ?_ _)
    exact { k0 with supply := ⟨k.supply.density, k.supply.ratio⟩, link := k.link.setLatchIf _ _ }
  · exact { k0 with supply := ⟨k.supply.density, k.supply.ratio⟩ }

theorem changePaper_kept (k : Kept free s) : Kept free (changePaper s) :=
  { k with head := k.head.drive { k.head.driver with } rfl rfl rfl rfl rfl rfl }

theorem flipPaper_kept (k : Kept free s) : Kept free (flipPaper s) :=
  { k with head := k.head.drive { k.head.driver with } rfl rfl rfl rfl rfl rfl }

theorem endPaperTimer_kept (k : Kept free s) : Kept free (endPaperTimer s) :=
  removeReasons_kept (s := { s with head := { s.head with paperTimer := none } })
    { k with head := k.head.drive { k.head.driver with } rfl rfl rfl rfl rfl rfl } _

/-! ### SET HEAD and SET DENSITY -/

/-- R1, R5: SET HEAD on a head that is not configured. -/
theorem configureHead_kept (k : Kept free s) (unset : s.head.config = none) (hcfg : ConfigOk cfg) : Kept free (configureHead cfg s) := by
  obtain ⟨hrow, still, released⟩ := k.head.driver.of_unset unset
  refine beginRow_kept { k with head := { k.head with
    config := by rintro c ⟨rfl⟩; exact hcfg
    driver := k.head.driver.configure unset cfg
    rows := ⟨k.head.rows.entries, k.head.rows.burn, k.head.rows.feed, by simp [still]⟩ } } (by simp) still (.inl released)

end Sys2Proof.Steps
end

section
/-!
SUPPORT. The Print Formatter's operations keep the block invariants: rasterization, commits, items and drains (R46 to R91).
-/

namespace Sys2Proof.Steps

open Sys2Proof.Machine Sys2Proof.Safety Sys2Proof.Laws

variable {free : Nat} {s : State}

/-! ### Rasterized lines (R3, R79) -/

theorem dotRow_sound (soft : List (List Byte)) (line : Line) (n : Nat) (h : dotRow soft line n ≠ []) :
    DotsOk (dotRow soft line n) := by
  refine ⟨h, ?_, ?_⟩ <;> unfold dotRow <;> split
  · exact List.pairwise_lt_range.filter _
  · exact List.Pairwise.nil
  · exact fun d hd => List.mem_range.1 (List.mem_of_mem_filter hd)
  · simp

theorem feedEntry_sound {n : Nat} (h : 1 ≤ n ∧ n ≤ 255) : ∀ e ∈ [RowEntry.feed n], EntryOk e := by
  rintro e he
  obtain rfl : e = .feed n := by simpa using he
  exact ⟨by simp [dotsOf], by rintro _ ⟨rfl⟩; exact h⟩

/-- R79: blank rows make one FEED entry, and each row with a dot a BURN entry. -/
theorem packRows_sound (rows : List (List Nat)) (hrows : ∀ r ∈ rows, r ≠ [] → DotsOk r) (blank : Nat)
    (hblank : blank + rows.length ≤ 255) :
    (packRows blank rows).length ≤ rows.length + (if blank = 0 then 0 else 1) ∧ ∀ e ∈ packRows blank rows, EntryOk e := by
  have feedOk (n : Nat) (hn : n ≤ 255) : ∀ e ∈ (if n = 0 then [] else [RowEntry.feed n]), EntryOk e := by
    split
    · simp
    · exact feedEntry_sound (by omega)
  induction rows generalizing blank with
  | nil =>
    refine ⟨?_, feedOk blank (by simpa using hblank)⟩
    unfold packRows
    split <;> simp
  | cons row rest ih =>
    have hrest : ∀ r ∈ rest, r ≠ [] → DotsOk r := fun r hr => hrows r (List.mem_cons_of_mem _ hr)
    rw [List.length_cons] at hblank ⊢
    cases row with
    | nil =>
      obtain ⟨hlen, hok⟩ := ih hrest (blank + 1) (by omega)
      rw [if_neg (by omega)] at hlen
      exact ⟨hlen.trans (by omega), hok⟩
    | cons d ds =>
      obtain ⟨hlen, hok⟩ := ih hrest 0 (by omega)
      rw [if_pos rfl] at hlen
      have hburn : EntryOk (.burn (d :: ds)) :=
        ⟨by rintro _ ⟨rfl⟩; exact hrows _ List.mem_cons_self (by simp), by simp [countOf]⟩
      unfold packRows
      constructor
      · split <;> simp <;> omega
      · intro e he
        rcases List.mem_append.1 he with he | he
        · exact feedOk blank (by omega) e he
        · rcases List.mem_cons.1 he with rfl | he
          · exact hburn
          · exact hok e he

/-- R79: a line's twelve dot rows make at most twelve sound entries. -/
theorem rasterize_sound (soft : List (List Byte)) (line : Line) :
    (rasterize soft line).length ≤ 12 ∧ ∀ e ∈ rasterize soft line, EntryOk e := by
  refine packRows_sound _ ?_ 0 (by simp)
  intro r hr hne
  obtain ⟨n, -, rfl⟩ := List.mem_map.1 hr
  exact dotRow_sound soft line n hne

/-! ### The formatter's window -/

/-- A change of the formatter that leaves the number of lines, the cursor line, the queues and what a drain owes. -/
theorem FmtKept.congr {f f' : Formatter} (k : FmtKept f) (hwindow : f'.window.length = f.window.length)
    (hcursor : f'.cursorLine = f.cursorLine) (hptq : f'.ptq = f.ptq) (hstack : f'.stack = f.stack)
    (howed : owedFeeds f'.activity = owedFeeds f.activity) : FmtKept f' where
  opened := hwindow ▸ k.opened
  cap := hwindow ▸ k.cap
  cursor := hcursor ▸ hwindow ▸ k.cursor
  ptq := hptq ▸ k.ptq
  stack := hstack ▸ k.stack
  owed := howed ▸ k.owed
  feeds := hptq ▸ k.feeds

theorem setCursor_length (f : Formatter) (l : Line) : (f.setCursor l).window.length = f.window.length :=
  List.length_set

theorem FmtKept.dropOldest {f : Formatter} (k : FmtKept f) (line : Line) : FmtKept (f.dropOldest line) := by
  have hcap := k.cap
  have hcursor := k.cursor
  have hlen : f.window.tail.length = f.window.length - 1 := List.length_tail
  refine { k with opened := ?_, cap := ?_, cursor := ?_ } <;> unfold Formatter.dropOldest <;> dsimp only <;> split
  · simp
  · next h => exact List.length_pos_iff.2 h
  · simp
  · omega
  · next h =>
    have : f.window.tail.length = 0 := by rw [h]; rfl
    simp only [List.length_singleton]
    omega
  · next h =>
    have := List.length_pos_iff.2 h
    omega

theorem FmtKept.openLine {f : Formatter} (k : FmtKept f) (room : f.window.length < 4) : FmtKept f.openLine := by
  refine { k with opened := ?_, cap := ?_, cursor := ?_ } <;> unfold Formatter.openLine <;>
    simp only [List.length_append, List.length_singleton] <;> omega

/-- R69: the oldest line may be committed: its entries find room. -/
theorem commitOldest_kept (k : Kept free s) (room : mayCommit s = true) : Kept free (commitOldest s) := by
  unfold commitOldest
  split
  · exact k
  · next line rest hw =>
    refine appendEntries_kept ?_ ?_ ?_
    · exact { k with fmt := k.fmt.dropOldest line }
    · unfold Formatter.entriesOf
      split
      · simp
      · exact (rasterize_sound _ _).2
    · have hq := k.head.cap
      rcases (mayCommit_iff s).1 room with hr | hr
      · unfold Formatter.entriesOf
        split
        · simpa using hq
        · exact (Nat.add_le_add_left (rasterize_sound _ _).1 _).trans hr
      · rw [hw] at hr
        have hc : line.continuation = true := by simpa using hr
        simpa [Formatter.entriesOf, hc] using hq

/-- The formatter after the oldest line's commit: the driver has no part in it. -/
theorem commitOldest_fmt (line : Line) (rest : List Line) (hw : s.fmt.window = line :: rest) :
    (commitOldest s).fmt = s.fmt.dropOldest line := by
  obtain ⟨h, u, l, e⟩ := appendEntries_touches { s with fmt := s.fmt.dropOldest line } (s.fmt.entriesOf line)
  simp only [commitOldest, hw]
  rw [e]

/-- R61: a line advance; where it commits, 12 entries are free. -/
theorem lineAdvance_kept (k : Kept free s) (room : s.fmt.advanceCommits = true → s.head.queue.length + 12 ≤ 32) :
    Kept free (lineAdvance s) := by
  unfold lineAdvance
  split
  · exact { k with fmt := k.fmt.congr (setCursor_length _ _) rfl rfl rfl rfl }
  · next habs =>
    split
    · next hnew =>
      have hlt : s.fmt.cursorLine + 1 < s.fmt.window.length := by simpa [Formatter.atNewest] using hnew
      exact { k with fmt := { k.fmt with cursor := hlt } }
    · next hnew =>
      split
      · next hcap => exact { k with fmt := k.fmt.openLine hcap }
      · next hcap =>
        have hroom := room (by simp_all [Formatter.advanceCommits])
        have kc := commitOldest_kept k ((mayCommit_iff s).2 (.inl hroom))
        refine { kc with fmt := kc.fmt.openLine ?_ }
        rcases hw : s.fmt.window with _ | ⟨line, rest⟩
        · simp [hw] at hcap
        · rw [commitOldest_fmt line rest hw]
          have := k.fmt.cap
          simp only [Formatter.dropOldest, hw, List.length_cons, List.tail_cons] at *
          split
          · simp
          · omega

/-! ### Characters and directives -/

theorem newLine_kept (k : Kept free s) (room : s.fmt.advanceCommits = true → s.head.queue.length + 12 ≤ 32) :
    Kept free (newLine s) := by
  refine lineAdvance_kept ?_ room
  exact { k with fmt := k.fmt.congr rfl rfl rfl rfl rfl }

theorem place_kept {f : Formatter} (k : FmtKept f) (c : Byte) : FmtKept (f.place c) := by
  unfold Formatter.place
  dsimp only
  split <;> exact k.congr (setCursor_length _ _) rfl rfl rfl rfl

theorem setLayout_kept (k : Kept free s) (column : Nat) (layout : Layout) :
    Kept free { s with fmt := { s.fmt with column := column, layout := layout } } :=
  { k with fmt := k.fmt.congr rfl rfl rfl rfl rfl }

theorem beginDrain_kept (k : Kept free s) (d : Drain) (howed : ∀ n ∈ owedFeeds (.draining d), 1 ≤ n ∧ n ≤ 255) :
    Kept free (beginDrain d s) :=
  { k with fmt := { k.fmt with owed := howed } }

/-- R47: where a character advances the line by a commit, 12 entries are free. -/
theorem room_of_hasRoom {c : Byte} (room : hasRoom (.char c) s = true) (hadv : s.fmt.advances c = true)
    (hcommits : s.fmt.advanceCommits = true) : s.head.queue.length + 12 ≤ 32 := by
  refine ((hasRoom_iff _ s).1 room).resolve_left ?_
  simp [Formatter.needsRoom, hadv, hcommits]

/-- R55 to R68: what a character can do. -/
theorem carryChar_cases {P : State → Prop} (c : Byte) (s : State) (print : isPrintable c = true → P (putPrintable c s))
    (advance : s.fmt.advances c = true → P (lineAdvance s)) (newline : s.fmt.advances c = true → P (newLine s))
    (vertical : P (verticalTab s))
    (layout : ∀ column layout, P { s with fmt := { s.fmt with column := column, layout := layout } })
    (drain : P (beginDrain (.formFeed none) s)) (beep : P (soundBeep s)) : P (carryChar c s) := by
  unfold carryChar formFeed
  refine iteInduction print fun _ => iteInduction (fun _ => layout _ s.fmt.layout) fun _ => ?_
  refine iteInduction (fun h => advance (by simp [Formatter.advances, h])) fun _ => ?_
  refine iteInduction (fun h => newline (by simp [Formatter.advances, h])) fun _ => ?_
  refine iteInduction (fun _ => vertical) fun _ => iteInduction (fun _ => layout _ s.fmt.layout) fun _ => ?_
  refine iteInduction (fun _ => layout _ s.fmt.layout) fun _ => iteInduction (fun h => ?_) fun _ => ?_
  · exact iteInduction (fun hform => newline (by simp [Formatter.advances, h, hform])) fun _ => drain
  refine iteInduction (fun _ => beep) fun _ => iteInduction (fun _ => layout s.fmt.column _) fun _ => ?_
  refine iteInduction (fun _ => layout s.fmt.column _) fun _ => ?_
  refine iteInduction (fun _ => layout s.fmt.column _) fun _ => ?_
  exact iteInduction (fun _ => layout _ _) fun _ => layout s.fmt.column s.fmt.layout

theorem putPrintable_kept (k : Kept free s) {c : Byte} (hc : isPrintable c = true)
    (room : s.fmt.advances c = true → s.fmt.advanceCommits = true → s.head.queue.length + 12 ≤ 32) :
    Kept free (putPrintable c s) := by
  unfold putPrintable makeFit
  dsimp only
  split_ifs with hfit hwrap
  · exact { k with fmt := place_kept k.fmt _ }
  · have kn := newLine_kept k (room (by simp [Formatter.advances, Formatter.wraps, hc, hwrap, hfit]))
    exact { kn with fmt := place_kept kn.fmt _ }
  · have kn := setLayout_kept k s.fmt.layout.lastColumn s.fmt.layout
    exact { kn with fmt := place_kept kn.fmt _ }

theorem verticalTab_kept (k : Kept free s) : Kept free (verticalTab s) := by
  unfold verticalTab
  split
  · exact setLatch_kept k _
  · exact { k with fmt := { k.fmt with cursor := (Nat.sub_le _ _).trans_lt k.fmt.cursor } }

/-- R55 to R68: a character is carried out, with the room that it needs. -/
theorem carryChar_kept (k : Kept free s) (c : Byte) (room : hasRoom (.char c) s = true) : Kept free (carryChar c s) := by
  have hroom := room_of_hasRoom room
  refine carryChar_cases c s ?_ ?_ ?_ ?_ ?_ ?_ ?_
  · exact fun hc => putPrintable_kept k hc hroom
  · exact fun hadv => lineAdvance_kept k (hroom hadv)
  · exact fun hadv => newLine_kept k (hroom hadv)
  · exact verticalTab_kept k
  · exact setLayout_kept k
  · exact beginDrain_kept k _ (by simp [owedFeeds])
  · exact { k with keys := { k.keys with } }

theorem carryDirective_kept (k : Kept free s) (d : Directive) (hfeed : ∀ n ∈ rowsOf (.directive d), 1 ≤ n ∧ n ≤ 255) :
    Kept free (carryDirective d s) := by
  cases d with
  | setFormat fields => exact { k with fmt := k.fmt.congr rfl rfl rfl rfl rfl }
  | saveFormat =>
    refine { k with fmt := { k.fmt with stack := ?_ } }
    show (s.fmt.layout :: s.fmt.stack.take 3).length ≤ 4
    simp only [List.length_cons, List.length_take]
    omega
  | restoreFormat =>
    simp only [carryDirective, restoreFormat]
    split
    · exact setLatch_kept k _
    · next top rest hstack =>
      have := k.fmt.stack
      rw [hstack] at this
      exact { k with fmt := { k.fmt with stack := (Nat.le_succ _).trans this } }
  | feed rows => exact beginDrain_kept k _ (by simpa [owedFeeds, rowsOf] using hfeed)

theorem afterItem_kept (k : Kept free s) (ends : Bool) : Kept free (afterItem ends s) :=
  { k with fmt := k.fmt.congr rfl rfl rfl rfl rfl }

/-- R46: an item is taken, with the room that it needs. -/
theorem takeItem_kept (k : Kept free s) (o : Owner) {it : Item} (room : hasRoom it s = true)
    (hfeed : ∀ n ∈ rowsOf it, 1 ≤ n ∧ n ≤ 255) : Kept free (takeItem o it s) := by
  have k0 : Kept free { s with fmt := { s.fmt with owner := o, activity := .ready } } :=
    { k with fmt := { k.fmt with owed := by simp [owedFeeds] } }
  cases it with
  | char c => exact afterItem_kept (carryChar_kept k0 c room) _
  | directive d => exact afterItem_kept (carryDirective_kept k0 d hfeed) _

theorem LinkKept.pendRoom {k : LinkPort} (h : LinkKept free k) : LinkKept free k.pendRoom :=
  ⟨h.replies, h.room, h.stray, h.unready, h.torn, h.wire⟩

theorem checkPtqRoom_kept (k : Kept free s) : Kept free (checkPtqRoom s) := by
  unfold checkPtqRoom
  split
  · exact { k with fmt := k.fmt.congr rfl rfl rfl rfl rfl, link := k.link.pendRoom }
  · exact k

theorem hasRoom_checkPtqRoom (it : Item) (q : List Item) :
    hasRoom it (checkPtqRoom { s with fmt := { s.fmt with ptq := q } }) = hasRoom it s := by
  unfold checkPtqRoom
  split <;> rfl

/-- R80: the oldest entry of the print text queue is taken, with the room that it needs. -/
theorem takePtq_kept (k : Kept free s) (room : ∀ it ∈ s.fmt.ptq.head?, hasRoom it s = true) : Kept free (takePtq s) := by
  unfold takePtq
  split
  · exact k
  · next it rest hq =>
    have hlen : (it :: rest).length ≤ 64 := hq ▸ k.fmt.ptq
    have hfeeds : ∀ x ∈ it :: rest, ∀ n ∈ rowsOf x, 1 ≤ n ∧ n ≤ 255 := hq ▸ k.fmt.feeds
    refine takeItem_kept (checkPtqRoom_kept ?_) .ptq ?_ (hfeeds it List.mem_cons_self)
    · exact { k with fmt := { k.fmt with
        ptq := (Nat.le_succ _).trans hlen
        feeds := fun x hx => hfeeds x (List.mem_cons_of_mem _ hx) } }
    · rw [hasRoom_checkPtqRoom]
      exact room it (by simp [hq])

theorem takeKeyFeed_kept (k : Kept free s) (room : hasRoom (.char 0x0A) s = true) : Kept free (takeKeyFeed s) := by
  refine takeItem_kept ?_ .key ?_ (by simp [rowsOf])
  · exact { k with fmt := k.fmt.congr rfl rfl rfl rfl rfl }
  · exact room

/-! ### Drains -/

theorem endDrain_kept (k : Kept free s) : Kept free (endDrain s) :=
  { k with fmt := { k.fmt with owed := fun _ h => absurd h List.not_mem_nil } }

theorem endFlushTimer_kept (k : Kept free s) : Kept free (endFlushTimer s) := by
  have k1 : Kept free { s with fmt := { s.fmt with flush := none } } := { k with fmt := k.fmt.congr rfl rfl rfl rfl rfl }
  unfold endFlushTimer
  dsimp only
  split
  · exact beginDrain_kept k1 _ (by simp [owedFeeds])
  · exact k1

theorem endLapse_kept (k : Kept free s) : Kept free (endLapse s) := { k with fmt := k.fmt.congr rfl rfl rfl rfl rfl }

/-- R64: the FEED entries that lead to the next form top. -/
theorem feedEntries_sound (rows : Nat) : ∀ n ∈ feedEntries rows, 1 ≤ n ∧ n ≤ 255 := by
  intro n hn
  unfold feedEntries at hn
  rcases List.mem_append.1 hn with hn | hn
  · have := List.eq_of_mem_replicate hn
    omega
  · split at hn
    · simp at hn
    · obtain rfl : n = rows % 255 := by simpa using hn
      omega

theorem endFormFeed_kept (k : Kept free s) : Kept free (endFormFeed s) := by
  refine endDrain_kept ?_
  exact { k with fmt := k.fmt.congr rfl rfl rfl rfl rfl }

/-- R64, R72, R90: the last open line of a drain has been committed. -/
theorem lastCommitted_kept (k : Kept free s) (d : Drain) (howed : ∀ n ∈ owedFeeds (.draining d), 1 ≤ n ∧ n ≤ 255) :
    Kept free (lastCommitted d s) := by
  cases d with
  | flush column =>
    refine endDrain_kept ?_
    exact { k with fmt := k.fmt.congr (setCursor_length _ _) rfl rfl rfl rfl }
  | formFeed entries =>
    have k1 : Kept free { s with fmt := { s.fmt with
        column := s.fmt.layout.left
        activity := .draining (.formFeed (some (feedEntries s.fmt.rowsToTop))) } } :=
      { k with fmt := { k.fmt with owed := feedEntries_sound _ } }
    simp only [lastCommitted]
    split
    · exact endFormFeed_kept k1
    · exact k1
  | feed rows committed => exact { k with fmt := { k.fmt with owed := howed } }

theorem drainCommit_kept (k : Kept free s) : Kept free (drainCommit s) := by
  unfold drainCommit
  split
  · next d hd =>
    split
    · next hmay =>
      have kc := commitOldest_kept k (Bool.and_eq_true_iff.1 hmay).2
      dsimp only
      split
      · exact lastCommitted_kept kc d (hd ▸ k.fmt.owed)
      · exact kc
    · exact k
  · exact k

theorem formFeedAppend_kept (k : Kept free s) : Kept free (formFeedAppend s) := by
  unfold formFeedAppend
  split
  · next n rest ha =>
    have howed : ∀ m ∈ n :: rest, 1 ≤ m ∧ m ≤ 255 := by simpa [ha, owedFeeds] using k.fmt.owed
    split
    · next hfree =>
      have ka : Kept free (appendEntries [.feed n] { s with fmt := { s.fmt with activity := .draining (.formFeed (some rest)) } }) := by
        refine appendEntries_kept ?_ (feedEntry_sound (howed n List.mem_cons_self)) ?_
        · exact { k with fmt := { k.fmt with owed := fun m hm => howed m (List.mem_cons_of_mem _ hm) } }
        · have : 1 ≤ 32 - s.head.queue.length := hfree
          simp only [List.length_singleton]
          omega
      dsimp only
      split
      · exact endFormFeed_kept ka
      · exact ka
    · exact k
  · exact k

theorem feedAppend_kept (k : Kept free s) : Kept free (feedAppend s) := by
  unfold feedAppend
  split
  · next n ha =>
    split
    · next hfree =>
      have howed : 1 ≤ n ∧ n ≤ 255 := by simpa [ha, owedFeeds] using k.fmt.owed
      refine endDrain_kept (appendEntries_kept k (feedEntry_sound howed) ?_)
      have : 1 ≤ 32 - s.head.queue.length := hfree
      simp only [List.length_singleton]
      omega
    · exact k
  · exact k

end Sys2Proof.Steps
end

section
/-!
SUPPORT. The Traffic Router's operations and the judgements of the formatter keep the block invariants (R155 to R175).
-/

namespace Sys2Proof.Steps

open Sys2Proof.Machine Sys2Proof.Safety Sys2Proof.Laws

variable {free : Nat} {s t : State} {f : LineFormat} {r : Router}

/-! ### Flow control and received characters (R160 to R174) -/

theorem LinkKept.pendLine {k : LinkPort} (h : LinkKept free k) : LinkKept free k.pendLine :=
  ⟨h.replies, h.room, h.stray, h.unready, h.torn, h.wire⟩

theorem LinkKept.pendLineIf {k : LinkPort} (h : LinkKept free k) (c : Prop) [Decidable c] :
    LinkKept free (if c then k.pendLine else k) := by
  split
  · exact h.pendLine
  · exact h

/-- R171: going to HOLD SENT leaves the slot empty or with a HOLD. -/
theorem sendHold_agrees (r : Router) : FlowAgrees r.sendHold := by
  unfold FlowAgrees Router.sendHold
  split <;> simp

/-- R171: going to CLEAR leaves the slot empty or with a RESUME. -/
theorem sendResume_agrees (r : Router) : FlowAgrees r.sendResume := by
  unfold FlowAgrees Router.sendResume
  split <;> simp

theorem judgeHold_kept (k : Kept free s) : Kept free (judgeHold s) := by
  unfold judgeHold
  split_ifs
  · exact { k with router := { k.router with slot := sendHold_agrees _ }, link := k.link.pendLine }
  · exact { k with router := { k.router with slot := sendResume_agrees _ }, link := k.link.pendLine }
  · exact k

theorem clearRemoteHeld_kept (k : Kept free s) : Kept free (clearRemoteHeld s) :=
  { k with router := { k.router with }, link := k.link.pendLineIf _ }

theorem setRemoteHeld_kept (k : Kept free s) : Kept free (setRemoteHeld s) := by
  refine { k with router := { k.router with }, link := ?_ }
  unfold setRemoteHeld
  dsimp only
  split
  · exact k.link
  · exact k.link.pendLine

theorem endRemoteTimer_kept (k : Kept free s) : Kept free (endRemoteTimer s) := setLatch_kept (clearRemoteHeld_kept k) _

theorem turnFlowOff_kept (k : Kept free s) : Kept free (turnFlowOff s) := by
  have k1 : Kept free
      (if s.router.holdSent then { s with router := s.router.sendResume, link := s.link.pendLine } else s) := by
    split
    · exact { k with router := { k.router with slot := sendResume_agrees _ }, link := k.link.pendLine }
    · exact k
  have k2 := clearRemoteHeld_kept k1
  exact { k2 with router := { k2.router with } }

theorem togglePause_kept (k : Kept free s) : Kept free (togglePause s) := by
  refine judgeHold_kept ?_
  exact { k with router := { k.router with } }

/-- R174: the Router at an entry to IDLE. -/
theorem routerIdle_kept (k : Kept free s) (b : Bool) : Kept free (routerIdle b s) := by
  have k1 := clearRemoteHeld_kept k
  refine { k1 with link := ?_, router := { k1.router with tx := ?_, slot := nofun, discards := ?_ } }
  · exact k1.link.pendLineIf _
  · show (if b then [] else s.router.txQueue).length ≤ 8
    split
    · simp
    · exact k.router.tx
  · show (if b then countUpBy s.router.txQueue.length s.router.discards else s.router.discards) ≤ 65535
    split
    · exact countUpBy_le _ _
    · exact k.router.discards

theorem RouterKept.echo (k : RouterKept f r) (c : Byte) : RouterKept f (r.echo c) := by
  unfold Router.echo
  split
  · next h => exact { k with tx := by simpa using h }
  · exact { k with echoDrops := countUp_le _ }

theorem countUpIf_le (b : Prop) [Decidable b] {n : Nat} (h : n ≤ 65535) : (if b then countUp n else n) ≤ 65535 := by
  split
  · exact countUp_le _
  · exact h

theorem countFlags_kept (k : Kept free s) (c : RxChar) : Kept free (countFlags c s) :=
  { k with
    router := { k.router with
      parityErrors := countUpIf_le _ k.router.parityErrors
      framingErrors := countUpIf_le _ k.router.framingErrors }
    link := k.link.setLatchIf _ _ }

/-- R159, R160: a character joins the store only where there is a place. -/
theorem storeChar_kept (k : Kept free s) (c : RxChar) : Kept free (storeChar c s) := by
  unfold storeChar
  split
  · next hplace =>
    have hr : RouterKept s.format { s.router with store := s.router.store ++ [c] } :=
      { k.router with store := by simpa using hplace }
    refine judgeHold_kept ?_
    refine { k with router := ?_ }
    dsimp only
    split
    · exact hr.echo _
    · exact hr
  · refine setLatch_kept ?_ _
    exact { k with router := { k.router with overruns := countUp_le _ } }

/-- R160: a received character. -/
theorem arrive_kept (k : Kept free s) (c : RxChar) : Kept free (arrive c s) := by
  unfold arrive consumeFlow
  split_ifs
  · exact setRemoteHeld_kept k
  · exact clearRemoteHeld_kept k
  · exact storeChar_kept (countFlags_kept k c) c

/-! ### Takes (R158) -/

theorem checkStqRoom_kept (k : Kept free s) : Kept free (checkStqRoom s) := by
  unfold checkStqRoom
  split
  · exact { k with router := { k.router with }, link := k.link.pendRoom }
  · exact k

theorem removeHead_kept (k : Kept free s) (src : Source) : Kept free (removeHead src s) := by
  cases src with
  | rx =>
    refine judgeHold_kept ?_
    exact { k with router := { k.router with
      store := (List.length_tail ▸ Nat.sub_le _ _ : s.router.store.tail.length ≤ _).trans k.router.store } }
  | key =>
    exact { k with keys := { k.keys with
      queue := (List.length_tail ▸ Nat.sub_le _ _ : s.keys.queue.tail.length ≤ _).trans k.keys.queue } }
  | stq =>
    refine checkStqRoom_kept ?_
    exact { k with router := { k.router with
      stq := (List.length_tail ▸ Nat.sub_le _ _ : s.router.stq.tail.length ≤ _).trans k.router.stq } }

/-- R158: the oldest character's leaving touches neither the sinks' queues nor the printer. -/
theorem removeHead_sinks (src : Source) (s : State) :
    (removeHead src s).router.txQueue = s.router.txQueue ∧ (removeHead src s).router.rxData = s.router.rxData
      ∧ (removeHead src s).router.keyData = s.router.keyData ∧ (removeHead src s).fmt = s.fmt
      ∧ (removeHead src s).head = s.head := by
  cases src with
  | rx =>
    obtain ⟨h, f, k, e⟩ := judgeHold_touches { s with router := { s.router with store := s.router.store.tail } }
    simp only [removeHead, e, and_self]
  | key => simp only [removeHead, and_self]
  | stq => simp only [removeHead, checkStqRoom]; split <;> simp only [and_self]

theorem hasRoom_congr (it : Item) (hfmt : t.fmt = s.fmt) (hhead : t.head = s.head) : hasRoom it t = hasRoom it s := by
  unfold hasRoom rowsFree
  rw [hfmt, hhead]

/-- R158: what a take needs: a place in the queue of each sink of the set but PRINT, and the room of the item that PRINT takes. -/
structure SinksFree (src : Source) (s : State) : Prop where
  line : (sinksOf src s).line = true → s.router.txQueue.length < 8
  link : (sinksOf src s).link = true → linkAccepts src s = true
  print : (sinksOf src s).print = true → ∀ c ∈ headCode src s, hasRoom (.char c) s = true

/-- R158, R166: a character joins the LINK queue of its source. -/
theorem RouterKept.toLink (k : RouterKept f r) (src : Source) (c : KeyChar)
    (place : match src with
      | .rx => r.rxData.length < 32
      | .key => r.keyData.length < 16
      | .stq => True) : RouterKept f (r.toLink src c) := by
  cases src with
  | rx => exact { k with rxData := by simpa [Router.toLink] using place }
  | key => exact { k with keyData := by simpa [Router.toLink] using place }
  | stq => exact k

theorem toLink_txQueue (src : Source) (c : KeyChar) (r : Router) : (r.toLink src c).txQueue = r.txQueue := by
  cases src <;> rfl

/-- R158: a source whose sinks are free is taken. -/
theorem takeSource_kept (k : Kept free s) (src : Source) (hfree : SinksFree src s) : Kept free (takeSource src s) := by
  unfold takeSource
  split
  · exact k
  · next code hcode =>
    obtain ⟨htx, hrx, hkd, hfmt, hhead⟩ := removeHead_sinks src s
    have k1 := removeHead_kept k src
    have k2 (c : KeyChar) : Kept free (deliverQueues src (sinksOf src s) c (removeHead src s)) := by
      have hlink : RouterKept (removeHead src s).format (if (sinksOf src s).link
          then (removeHead src s).router.toLink src c else (removeHead src s).router) := by
        split
        · next hx =>
          have hplace := hfree.link hx
          refine k1.router.toLink src c ?_
          cases src with
          | rx => simpa [hrx, linkAccepts] using hplace
          | key => simpa [hkd, linkAccepts] using hplace
          | stq => trivial
        · exact k1.router
      have hq : (if (sinksOf src s).link then (removeHead src s).router.toLink src c
          else (removeHead src s).router).txQueue = s.router.txQueue := by
        split
        · rw [toLink_txQueue, htx]
        · exact htx
      refine { k1 with router := ?_ }
      unfold deliverQueues
      dsimp only
      split
      · next hx => exact { hlink with tx := by simpa [hq] using hfree.line hx }
      · exact hlink
    dsimp only
    split
    · next hx =>
      refine takeItem_kept (k2 _) _ ?_ (by simp [rowsOf])
      rw [hasRoom_congr (.char code) (t := deliverQueues _ _ _ _) hfmt hhead]
      exact hfree.print hx code hcode
    · exact k2 _

theorem linePlace_free (h : linePlace s = true) : s.router.txQueue.length < 8 := by
  simp only [linePlace, Bool.and_eq_true, decide_eq_true_eq] at h
  exact h.2

theorem lineAccepts_free {src : Source} (h : lineAccepts src s = true) : s.router.txQueue.length < 8 := by
  cases src with
  | rx => simp [lineAccepts] at h
  | key => exact linePlace_free h
  | stq =>
    simp only [lineAccepts, Bool.and_eq_true] at h
    exact linePlace_free h.1

/-- R155: PRINT accepts a character only with the room that it needs. -/
theorem printAccepts_room {src : Source} (h : printAccepts src s = true) : ∀ c ∈ headCode src s, hasRoom (.char c) s = true := by
  intro c hc
  simp only [printAccepts, Option.mem_def.1 hc, formatterTakes, Bool.and_eq_true] at h
  exact h.1.2

/-- R158: a ready source finds its sinks free. -/
theorem sinksFree_of_ready {src : Source} (h : ready src s = true) : SinksFree src s := by
  simp only [ready, Bool.and_eq_true, Bool.or_eq_true, Bool.not_eq_true'] at h
  obtain ⟨⟨⟨-, hline⟩, hprint⟩, hlink⟩ := h
  exact
    { line := fun hx => lineAccepts_free (hline.resolve_left (by simp [hx]))
      link := fun hx => hlink.resolve_left (by simp [hx])
      print := fun hx => printAccepts_room (hprint.resolve_left (by simp [hx])) }

theorem takeIfReady_kept (k : Kept free s) (src : Source) : Kept free (takeIfReady src s) := by
  unfold takeIfReady
  split
  · next h => exact takeSource_kept k src (sinksFree_of_ready h)
  · exact k

/-! ### The formatter's own judgements (R49, R51) -/

theorem grant_kept (k : Kept free s) : Kept free (grant s) := by
  unfold grant
  split
  · exact { k with fmt := k.fmt.congr rfl rfl rfl rfl rfl }
  · exact k

theorem beginStall_kept (k : Kept free s) : Kept free (beginStall s) := by
  unfold beginStall
  split
  · split
    · exact k
    · split
      · exact k
      · exact { k with fmt := { k.fmt with owed := fun _ h => absurd h List.not_mem_nil } }
  · exact k

theorem leaveStall_kept (k : Kept free s) : Kept free (leaveStall s) :=
  { k with fmt := { k.fmt with owed := fun _ h => absurd h List.not_mem_nil } }

theorem sinksFree_rx (h : rxContends s = true) (room : ∀ c ∈ headCode .rx s, hasRoom (.char c) s = true) :
    SinksFree .rx s := by
  simp only [rxContends, Bool.and_eq_true, Bool.or_eq_true, Bool.not_eq_true'] at h
  obtain ⟨⟨-, hlink⟩, hline⟩ := h
  exact ⟨fun hx => by simp [hx] at hline, fun hx => hlink.resolve_left (by simp [hx]), fun _ => room⟩

theorem sinksFree_key (h : keyCharContends s = true) (room : ∀ c ∈ headCode .key s, hasRoom (.char c) s = true) :
    SinksFree .key s := by
  simp only [keyCharContends, Bool.and_eq_true, Bool.or_eq_true, Bool.not_eq_true'] at h
  obtain ⟨⟨-, hline⟩, hlink⟩ := h
  exact ⟨fun hx => linePlace_free (hline.resolve_left (by simp [hx])), fun hx => hlink.resolve_left (by simp [hx]),
    fun _ => room⟩

theorem sinksFree_stq (h : stqContends s = true) (room : ∀ c ∈ headCode .stq s, hasRoom (.char c) s = true) :
    SinksFree .stq s := by
  simp only [stqContends, Bool.and_eq_true, Bool.or_eq_true, Bool.not_eq_true'] at h
  obtain ⟨⟨-, hline⟩, hlink⟩ := h
  exact ⟨fun hx => lineAccepts_free (hline.resolve_left (by simp [hx])), fun hx => by simp [hx] at hlink, fun _ => room⟩

/-- R51: the owner's next item is taken once it has the room it needs. -/
theorem takeOwned_kept (k : Kept free s) {it : Item} (hnext : nextItem s = some it) (room : hasRoom it s = true) :
    Kept free (takeOwned s) := by
  have ofHead (src : Source) (h : (headCode src s).map Item.char = some it) :
      ∀ c ∈ headCode src s, hasRoom (.char c) s = true := by
    intro c hc
    rw [Option.mem_def.1 hc] at h
    obtain rfl : Item.char c = it := Option.some.inj h
    exact room
  cases howner : s.fmt.owner <;> simp only [nextItem, takeOwned, howner] at hnext ⊢
  case none => exact k
  case rx =>
    split_ifs at hnext with hc
    exact takeSource_kept k .rx (sinksFree_rx hc (ofHead .rx hnext))
  case key =>
    split_ifs at hnext ⊢ with hfeed hc
    · obtain rfl : Item.char 0x0A = it := Option.some.inj hnext
      exact takeKeyFeed_kept k room
    · exact takeSource_kept k .key (sinksFree_key hc (ofHead .key hnext))
  case stq =>
    split_ifs at hnext with hc
    exact takeSource_kept k .stq (sinksFree_stq hc (ofHead .stq hnext))
  case ptq =>
    refine takePtq_kept k fun x hx => ?_
    obtain rfl : x = it := Option.some.inj ((Option.mem_def.1 hx).symm.trans hnext)
    exact room

theorem endStall_kept (k : Kept free s) : Kept free (endStall s) := by
  unfold endStall
  split
  · split
    · exact leaveStall_kept k
    · next it hnext =>
      split_ifs with hneeds hroom
      · exact takeOwned_kept k hnext hroom
      · exact k
      · exact leaveStall_kept k
  · exact k

theorem judgeFormatter_kept (k : Kept free s) : Kept free (judgeFormatter s) :=
  beginStall_kept (grant_kept (endStall_kept k))

/-- R47, R48: the formatter takes an item of its own sources. -/
theorem formatterTake_kept (k : Kept free s) : Kept free (formatterTake s) := by
  have k1 := grant_kept k
  unfold formatterTake
  dsimp only
  split_ifs with hdrain hptq hkey hroom
  · exact k
  · split
    · exact k
    · next it rest hq =>
      split_ifs with hroom
      · refine takePtq_kept k1 fun x hx => ?_
        obtain rfl : it = x := by simpa [hq] using hx
        exact hroom
      · exact k
  · exact takeKeyFeed_kept k1 hroom
  · exact k
  · exact k

end Sys2Proof.Steps
end

section
/-!
SUPPORT. The message link's operations, the end of a row and the resets keep the block invariants (R176 to R196).
-/

namespace Sys2Proof.Steps

open Sys2Proof.Machine Sys2Proof.Safety Sys2Proof.Laws

variable {free : Nat} {s : State}

/-! ### The link transmitter (R176 to R185) -/

theorem foldr_add_append (l : List Byte) (b : Byte) : (l ++ [b]).foldr (· + ·) 0 = l.foldr (· + ·) 0 + b := by
  induction l with
  | nil => simp
  | cons a l ih => rw [List.cons_append, List.foldr_cons, List.foldr_cons, ih, BitVec.add_assoc]

/-- R176, R177: the layout of a frame with a payload of at most 40 bytes. -/
theorem frameOf_ok (kind : Byte) (payload : List Byte) (h : payload.length ≤ 40) : FrameOk (frameOf kind payload) := by
  refine ⟨rfl, by simp [frameOf], ?_, ?_, ?_⟩
  · simp [frameOf]; omega
  · simp [frameOf]; omega
  · have hsum : (frameOf kind payload).tail.foldr (· + ·) 0
        = kind + (BitVec.ofNat 8 payload.length + (payload.foldr (· + ·) 0 + checkByte kind payload)) := by
      rw [← foldr_add_append]; rfl
    rw [hsum, ← BitVec.add_assoc, ← BitVec.add_assoc, checkByte, BitVec.add_right_neg]
    rfl

theorem sendFrame_kept (k : Kept free s) (kind : Byte) {payload : List Byte} (h : payload.length ≤ 40) (b : Bool) :
    Kept free (sendFrame kind payload b s) :=
  { k with link := { k.link with wire := by rintro f ⟨rfl⟩; exact frameOf_ok kind payload h } }

/-- R190: the longest status group, PRINT, has 27 bytes. -/
theorem groupBytes_length (g : Group) (s : State) : (groupBytes g s).length ≤ 27 := by
  cases g <;> simp [groupBytes, lineGroup, printGroup, keysGroup, supplyGroup, wordBytes, tabBytes]

theorem sendReply_kept (k : Kept free s) (r : Reply) : Kept free (sendReply r s) := by
  cases r with
  | conditions =>
    have kc : Kept free { s with link := s.link.clearConditions } := { k with link := { k.link with } }
    exact sendFrame_kept kc _ (by simp [conditionsPayload, wordBytes]) _
  | status g =>
    refine sendFrame_kept k _ ?_ _
    have := groupBytes_length g s
    simp only [List.length_append, List.length_cons, List.length_nil]
    omega
  | _ => exact sendFrame_kept k _ (by simp [identifyPayload]) _

theorem keyPairs_length (l : List KeyChar) : (l.map keyPair).flatten.length = 2 * l.length := by
  induction l with
  | nil => rfl
  | cons c l ih => simp only [List.map_cons, List.flatten_cons, List.length_append, List.length_cons, ih, keyPair, List.length_nil]; omega

theorem sendReport_kept (k : Kept free s) : Kept free (sendReport s) := by
  have taken (n : Nat) : min Config.reportTake n ≤ 16 := Nat.min_le_left _ _
  unfold sendReport
  split_ifs
  · refine sendFrame_kept ?_ _ (by simp [wordBytes]) _
    exact { k with link := { k.link with } }
  · refine sendFrame_kept ?_ _ (by simp) _
    exact { k with link := { k.link with } }
  · refine sendFrame_kept ?_ _ ?_ _
    · exact { k with router := { k.router with rxData := (List.length_drop ▸ Nat.sub_le _ _ :
        (s.router.rxData.drop 16).length ≤ _).trans k.router.rxData } }
    · have := taken s.router.rxData.length
      simp only [List.length_cons, List.length_take]
      omega
  · refine sendFrame_kept ?_ _ ?_ _
    · exact { k with router := { k.router with keyData := (List.length_drop ▸ Nat.sub_le _ _ :
        (s.router.keyData.drop 16).length ≤ _).trans k.router.keyData } }
    · have := taken s.router.keyData.length
      simp only [List.length_cons, keyPairs_length, List.length_take]
      omega
  · refine sendFrame_kept ?_ _ (by simp) _
    exact { k with link := { k.link with } }
  · exact k

theorem kickLink_kept (k : Kept free s) : Kept free (kickLink s) := by
  unfold kickLink
  split
  · exact k
  · split
    · next r rest hq =>
      have hlen : s.link.replies.length = rest.length + 1 := by rw [hq]; rfl
      have hroom := k.link.room
      have hcap := k.link.replies
      refine sendReply_kept ?_ r
      refine { k with link := { k.link with replies := ?_, room := fun hr => ?_ } }
      · dsimp only; omega
      · have := hroom hr
        dsimp only
        omega
    · exact sendReport_kept k

/-- The judgements at the end of a row. -/
theorem settleRow_kept (k : Kept free s) : Kept free (settleRow s) := by
  have kTone : Kept free (settleTone s) := { k with }
  exact judgeFormatter_kept (kickLink_kept (judgeFormatter_kept kTone))

/-! ### The frame receiver (R177 to R182) -/

theorem LinkKept.outside {k : LinkPort} (h : LinkKept free k) : LinkKept free { k with receiver := .outside, gap := none } :=
  { h with room := by simp [receiving] }

theorem discardUnready_kept (k : Kept free s) : Kept free (discardUnready s) :=
  { k with link := { k.link.outside with unready := countUp_le _ } }

/-- R181: a place kept free is taken by a reply. -/
theorem reply_kept (k : Kept (free + 1) s) (r : Reply) : Kept free (reply r s) := by
  have hcap := k.link.replies
  have hroom := k.link.room
  refine { k with link := { k.link with replies := ?_, room := fun h => ?_ } }
  · simp only [reply, List.length_append, List.length_singleton]; omega
  · have := hroom h
    simp only [reply, List.length_append, List.length_singleton]
    omega

/-- R181, R182: when a ready frame ends, the receiver goes outside, and a place is free for its reply. -/
theorem closeFrame_ready (k : Kept 0 s) (h : s.link.replies.length ≤ 3) : Kept 1 (closeFrame s) :=
  { k with link := { k.link with replies := by simp only [closeFrame]; omega, room := by simp [closeFrame, receiving] } }

theorem lrdy_free (h : lrdy s = true) : s.link.replies.length ≤ 3 := by
  simp only [lrdy, Bool.and_eq_true, decide_eq_true_eq] at h
  exact Nat.le_of_lt_succ h.1.1

theorem frameReady_free (k : Kept 0 s) {kind : Byte} {p : List Byte} (h : frameReady kind p s = some true) :
    s.link.replies.length ≤ 3 := by
  unfold frameReady at h
  split at h
  · exact lrdy_free (Option.some.inj h)
  · next isReady bytes hr =>
    split_ifs at h
    obtain rfl : isReady = true := Option.some.inj h
    exact k.link.room (by simp [hr, receiving])

/-- What a command does keeps every block, the place for its reply with them. -/
def ActKeeps (act : State → State × Reply) : Prop := ∀ s, Kept 1 s → Kept 1 (act s).1

/-- R179, R181, R182: a frame completes. -/
theorem complete_kept (k : Kept 0 s) (kind : Byte) (p : List Byte) {act : State → State × Reply} (hact : ActKeeps act) :
    Kept 0 (complete kind p act s) := by
  rcases complete_cases (kind := kind) (p := p) act s with e | e | ⟨hready, e⟩ <;> rw [e]
  · exact k
  · exact discardUnready_kept k
  · exact reply_kept (hact _ (closeFrame_ready k (frameReady_free k hready))) _

theorem rejects_keep (r : Reply) : ActKeeps fun s => (s, r) := fun _ k => k

theorem rejectUnknown_kept (k : Kept 0 s) (kind : Byte) (p : List Byte) : Kept 0 (rejectUnknown kind p s) := by
  unfold rejectUnknown
  split
  · exact k
  · exact complete_kept k kind p (rejects_keep _)

theorem rejectCheck_kept (k : Kept 0 s) (kind : Byte) (p : List Byte) (check : Byte) : Kept 0 (rejectCheck kind p check s) := by
  unfold rejectCheck
  split
  · exact k
  · exact complete_kept k kind p (rejects_keep _)

theorem longLength_kept (k : Kept 0 s) (b : Byte) : Kept 0 (longLength b s) := by
  unfold longLength endByLength
  split
  · split
    · next hr => exact reply_kept (closeFrame_ready k (k.link.room (by simp [hr, receiving]))) _
    · exact discardUnready_kept k
    · exact k
  · exact k

theorem tearFrame_kept (k : Kept 0 s) : Kept 0 (tearFrame s) := by
  unfold tearFrame
  split
  · exact { k with link := { k.link with } }
  · exact discardUnready_kept k
  · next bytes hr =>
    have k1 := setLatch_kept (reply_kept (closeFrame_ready k (k.link.room (by simp [hr, receiving])))
      (.reject (tornKind bytes) .torn)) .linkTorn
    exact { k1 with link := { k1.link with torn := countUp_le _ } }

theorem collectByte_kept (k : Kept free s) (b : Byte) : Kept free (collectByte b s) := by
  unfold collectByte
  split
  · next isReady bytes hr =>
    split
    · refine { k with link := { k.link with room := fun h => k.link.room ?_ } }
      rw [hr]
      cases isReady
      · simp [receiving] at h
      · rfl
    · exact k
  · exact k

/-- R177, R182: a frame opens ready only while a place is free for its reply. -/
theorem openFrame_kept (k : Kept 0 s) : Kept 0 (openFrame s) := by
  unfold openFrame
  split
  · refine { k with link := { k.link with room := fun h => ?_ } }
    cases hl : lrdy s
    · simp [hl, receiving] at h
    · exact lrdy_free hl
  · exact k

theorem countStray_kept (k : Kept free s) (b : Byte) : Kept free (countStray b s) := by
  unfold countStray
  split
  · split
    · exact k
    · exact { k with link := { k.link with stray := countUp_le _ } }
  · exact k

theorem endUnready_kept (k : Kept free s) : Kept free (endUnready s) := by
  unfold endUnready
  split
  · exact discardUnready_kept k
  · split
    · exact k
    · exact discardUnready_kept k
  · exact k

/-! ### Resets (R194) -/

theorem linkReset_kept : LinkKept 0 .reset := ⟨by decide, by decide, by decide, by decide, by decide, nofun⟩

theorem headReset_kept {cfg : Option HeadConfig} (hcfg : ∀ c ∈ cfg, ConfigOk c) (paper : Bool) :
    HeadKept (.reset cfg paper) :=
  ⟨hcfg, Nat.zero_le _, Nat.zero_le _, Nat.zero_le _, DriverSound.reset _ _, ⟨nofun, nofun, nofun, nofun⟩⟩

theorem fmtReset_kept : FmtKept .reset := ⟨by decide, by decide, by decide, by decide, by decide, nofun, nofun⟩

theorem routerReset_kept : RouterKept .reset .reset :=
  ⟨by decide, by decide, by decide, by decide, by decide, nofun, by decide, by decide, by decide, by decide, by decide,
    by decide, by decide⟩

/-- R194: a part that a reset holds. -/
theorem enterReset_kept (cause : Cause) {cfg : Option HeadConfig} (hcfg : ∀ c ∈ cfg, ConfigOk c) (ends : Timer) (s : State) :
    Kept 0 (enterReset cause cfg ends s) where
  link := { linkReset_kept with }
  supply := (⟨by decide, by decide⟩ : SupplyKept .reset)
  head := headReset_kept hcfg _
  fmt := fmtReset_kept
  format := (⟨nofun, nofun⟩ : FormatKept .reset)
  signal := (⟨by decide, by decide⟩ : SignalKept .reset)
  monitor := (⟨by decide, by decide⟩ : MonitorKept .reset)
  router := routerReset_kept
  keys := (⟨by decide, by decide, by decide, by decide, by decide, by decide⟩ : KeysKept .reset)

theorem generalReset_kept (k : Kept 0 s) (cause : Cause) (ends : Timer) : Kept 0 (generalReset cause ends s) :=
  enterReset_kept _ k.head.config _ _

theorem powerUp_kept (s : State) : Kept 0 (powerUp s) := enterReset_kept (cfg := none) _ (by simp) none s

theorem LinkKept.restarted {k : LinkPort} (h : LinkKept free k) (cause : Cause) : LinkKept free (k.restarted cause) := by
  unfold LinkPort.restarted
  refine LinkKept.setLatch ?_ _
  exact ⟨h.replies, h.room, h.stray, h.unready, h.torn, h.wire⟩

theorem endReset_kept (k : Kept free s) (cause : Cause) : Kept free (endReset cause s) :=
  { k with
    link := k.link.restarted cause
    supply := { k.supply with }
    head := k.head.drive { k.head.driver with } rfl rfl rfl rfl rfl rfl
    monitor := { k.monitor with }
    keys := { k.keys with } }

theorem resetMoment_kept (k : Kept free s) (dt : Micros) : Kept free (resetMoment dt s) := by
  unfold resetMoment
  split
  · exact atMoment_kept k _
  · exact after_kept k _

theorem endFrame_kept (k : Kept 0 s) : Kept 0 (endFrame s) := by
  unfold endFrame endTxFrame restartReset
  split
  · exact k
  · have k1 : Kept 0 { s with link := { s.link with tx := none } } := { k with link := { k.link with wire := nofun } }
    dsimp only
    split
    · exact generalReset_kept k1 _ _
    · exact k1

end Sys2Proof.Steps
end

section
/-!
SUPPORT. The line's, the connection's and the keyboard's operations keep the block invariants (R92 to R154).
-/

namespace Sys2Proof.Steps

open Sys2Proof.Machine Sys2Proof.Safety Sys2Proof.Laws

variable {free : Nat} {s : State}

/-! ### The signal path and the connection (R98 to R133) -/

/-- A change of the signal path that leaves its two counters. -/
theorem setSignal_kept (k : Kept free s) {g : Signal} (h1 : g.received = s.signal.received) (h2 : g.muted = s.signal.muted) :
    Kept free { s with signal := g } :=
  { k with signal := ⟨h1 ▸ k.signal.received, h2 ▸ k.signal.muted⟩ }

/-- A change of the Carrier Monitor that leaves its settings. -/
theorem setMonitor_kept (k : Kept free s) {m : Monitor} (h1 : m.dropoutHold = s.monitor.dropoutHold)
    (h2 : m.connectTimeout = s.monitor.connectTimeout) : Kept free { s with monitor := m } :=
  { k with monitor := ⟨h1 ▸ k.monitor.dropout, h2 ▸ k.monitor.connect⟩ }

theorem setConn_kept (k : Kept free s) (c : Conn) : Kept free { s with conn := c } := { k with }

theorem handOn_kept (k : Kept free s) (c : RxChar) : Kept free (handOn c s) := by
  refine arrive_kept ?_ c
  exact { k with signal := { k.signal with received := countUp_le _ } }

theorem muteOne_kept (k : Kept free s) : Kept free (muteOne s) :=
  { k with signal := { k.signal with muted := countUp_le _ } }

theorem setDeframer_kept (k : Kept free s) (d : Deframer) : Kept free (setDeframer d s) := setSignal_kept k rfl rfl

theorem finishChar_kept (k : Kept free s) (c : RxChar) (spoiled : Bool) : Kept free (finishChar c spoiled s) := by
  unfold finishChar
  split
  · exact handOn_kept k c
  · exact muteOne_kept k

theorem characterFinished_kept (k : Kept free s) : Kept free (characterFinished s) := by
  unfold characterFinished
  split
  · split
    · unfold lastCentre
      dsimp only
      split
      · exact setDeframer_kept (atMoment_kept k _) _
      · exact finishChar_kept (setDeframer_kept (atMoment_kept k _) _) _ _
    · exact k
  · split
    · exact finishChar_kept (setDeframer_kept k _) _ _
    · exact k
  · exact k

theorem centreReached_kept (k : Kept free s) : Kept free (centreReached s) := by
  unfold centreReached
  split
  · split
    · exact setSignal_kept (atMoment_kept k _) rfl rfl
    · exact k
  · exact k

theorem breakWatchEnd_kept (k : Kept free s) : Kept free (breakWatchEnd s) := by
  unfold breakWatchEnd
  split
  · split
    · exact k
    · have k1 := setDeframer_kept (atMoment_kept k (watchEnd s.format ‹Micros›)) .waitMark
      unfold breakReceived
      dsimp only
      split
      · exact setLatch_kept k1 _
      · exact muteOne_kept k1
  · exact k

theorem countHalf_settings (c : HalfClass) (m : Monitor) :
    (m.countHalf c).dropoutHold = m.dropoutHold ∧ (m.countHalf c).connectTimeout = m.connectTimeout := by
  unfold Monitor.countHalf
  split <;> exact ⟨rfl, rfl⟩

theorem judgeHalf_kept (k : Kept free s) (h : Micros) : Kept free (judgeHalf h s) := by
  obtain ⟨h1, h2⟩ := countHalf_settings (classify (listenChannel s.conn) h) s.monitor
  exact setSignal_kept (setMonitor_kept k h1 h2) rfl rfl

theorem crossing_kept (k : Kept free s) (at0 : Nat) : Kept free (crossing at0 s) := by
  unfold crossing
  dsimp only
  split
  · exact setSignal_kept k rfl rfl
  · exact setSignal_kept (judgeHalf_kept k _) rfl rfl

theorem inputCrossing_kept (k : Kept free s) (dt : Micros) : Kept free (inputCrossing dt s) := by
  unfold inputCrossing
  split
  · unfold ownCrossing
    split
    · exact k
    · exact crossing_kept (atMoment_kept k _) _
  · exact crossing_kept (after_kept k dt) _

/-- R107: the Framer takes the flow slot's code, or the transmit queue's oldest character. -/
theorem framerTake_kept (k : Kept free s) : Kept free (framerTake s) := by
  unfold framerTake
  split
  · split
    · refine setSignal_kept ?_ rfl rfl
      exact { k with router := { k.router with slot := nofun } }
    · split
      · next c rest hq =>
        have hlen : (c :: rest).length ≤ 8 := hq ▸ k.router.tx
        split
        · exact k
        · refine setSignal_kept ?_ rfl rfl
          exact { k with router := { k.router with tx := (Nat.le_succ _).trans hlen } }
      · exact k
  · exact k

theorem cellBoundary_kept (k : Kept free s) : Kept free (cellBoundary s) := by
  unfold cellBoundary
  split
  · split
    · exact setSignal_kept (atMoment_kept k _) rfl rfl
    · exact k
  · exact k

theorem framerCharacterEnd_kept (k : Kept free s) : Kept free (framerCharacterEnd s) := by
  unfold framerCharacterEnd
  split
  · split
    · have k1 (t : Micros) : Kept free { atMoment t s with signal := { s.signal with framer := none } } :=
        setSignal_kept (atMoment_kept k t) rfl rfl
      unfold characterEnd
      dsimp only
      split
      · exact handOn_kept (k1 _) _
      · exact k1 _
    · exact k
  · exact k

theorem startBreak_kept (k : Kept free s) : Kept free (startBreak s) := setSignal_kept k rfl rfl

theorem endBreak_kept (k : Kept free s) : Kept free (endBreak s) := setSignal_kept k rfl rfl

theorem endMark_kept (k : Kept free s) : Kept free (endMark s) := setSignal_kept k rfl rfl

/-- R130: a change of connect state. -/
theorem changeConn_kept (k : Kept free s) (new : Conn) : Kept free (changeConn new s) := by
  have k1 : Kept free
      { s with conn := new, signal := s.signal.onChange s.conn new, link := s.link.pendLine } :=
    { k with signal := ⟨k.signal.received, k.signal.muted⟩, link := k.link.pendLine }
  unfold changeConn
  dsimp only
  split
  · exact judgeHold_kept k1
  · exact k1

theorem cutFramer_kept (k : Kept free s) : Kept free (cutFramer s) :=
  { k with
    signal := { k.signal with }
    router := { k.router with discards := countUpIf_le _ k.router.discards } }

theorem restartMonitor_kept (k : Kept free s) (t : Micros) : Kept free { s with monitor := s.monitor.restart t } :=
  setMonitor_kept k rfl rfl

/-- R129: an entry to IDLE. -/
theorem enterIdle_kept (k : Kept free s) : Kept free (enterIdle s) := by
  have k1 : Kept free { s with monitor := monitorAfterTest s } := by
    unfold monitorAfterTest
    split
    · exact restartMonitor_kept k _
    · exact k
  exact routerIdle_kept (cutFramer_kept (changeConn_kept k1 _)) _

theorem windowJudged_settings (s : State) : (windowJudged s).1.dropoutHold = s.monitor.dropoutHold
    ∧ (windowJudged s).1.connectTimeout = s.monitor.connectTimeout := by
  unfold windowJudged windowPresent windowAbsent
  dsimp only
  split_ifs <;> exact ⟨rfl, rfl⟩

/-- R113 to R125: the end of a window, with the transition it hands on. -/
theorem endWindow_kept (k : Kept free s) : Kept free (endWindow s) := by
  obtain ⟨h1, h2⟩ := windowJudged_settings s
  have k1 : Kept free { s with monitor := (windowJudged s).1 } := setMonitor_kept k h1 h2
  unfold endWindow
  dsimp only
  split
  · exact k1
  · unfold onPresent
    split
    · exact changeConn_kept k1 _
    · exact changeConn_kept k1 _
    · exact setLatch_kept (changeConn_kept k1 _) _
    all_goals exact k1
  · unfold onAbsent
    split
    · exact changeConn_kept k1 _
    all_goals exact k1

theorem endSettleTimer_kept (k : Kept free s) : Kept free (endSettleTimer s) := by
  unfold endSettleTimer
  split
  · exact changeConn_kept k _
  · exact changeConn_kept k _

/-! ### The keyboard (R136 to R151) -/

/-- A change of the Keyboard Scanner that leaves its queue, its settings and its counters. -/
theorem KeysKept.congr {k k' : Keys} (h : KeysKept k) (hqueue : k'.queue = k.queue) (hdebounce : k'.debounce = k.debounce)
    (hdelay : k'.repeatDelay = k.repeatDelay) (hrate : k'.repeatRate = k.repeatRate) (hlost : k'.keysLost = k.keysLost)
    (hghosts : k'.ghosts = k.ghosts) : KeysKept k' where
  queue := hqueue ▸ h.queue
  debounce := hdebounce ▸ h.debounce
  delay := hdelay ▸ h.delay
  rate := hrate ▸ h.rate
  lost := hlost ▸ h.lost
  ghosts := hghosts ▸ h.ghosts

theorem foldl_keeps {α β : Type} {P : β → Prop} {f : β → α → β} (h : ∀ b a, P b → P (f b a)) (l : List α) (b : β) (hb : P b) :
    P (l.foldl f b) := by
  induction l generalizing b with
  | nil => exact hb
  | cons a l ih => exact ih _ (h b a hb)

theorem keyUp_kept (k : Keys) (p : Nat) (h : KeysKept k) : KeysKept (k.keyUp p) := by
  unfold Keys.keyUp
  dsimp only
  split <;> exact h.congr rfl rfl rfl rfl rfl rfl

theorem refuseGhost_kept (k : Keys) (p : Nat) (h : KeysKept k) : KeysKept (k.refuseGhost p) :=
  { h with ghosts := countUp_le _ }

theorem newRepeat_kept {k : Keys} (h : KeysKept k) (p : Nat) (e : KeyEntry) (t : Micros) : KeysKept (k.newRepeat p e t) := by
  unfold Keys.newRepeat
  split <;> exact h.congr rfl rfl rfl rfl rfl rfl

theorem debounceAll_kept {k : Keys} (h : KeysKept k) (ps : List (Nat × Bool)) : KeysKept (k.debounceAll ps) :=
  foldl_keeps (fun _ _ hb => hb.congr rfl rfl rfl rfl rfl rfl) ps k h

theorem firstAll_kept {k : Keys} (h : KeysKept k) (ps : List (Nat × Bool)) : KeysKept (k.firstAll ps) :=
  foldl_keeps (fun _ _ hb => hb.congr rfl rfl rfl rfl rfl rfl) ps k h

/-- R150: a code joins the key queue only where there is a place. -/
theorem offerKey_kept (k : Kept free s) (c : KeyChar) : Kept free (offerKey c s) := by
  unfold offerKey
  split
  · next hplace => exact { k with keys := { k.keys with queue := by simpa using hplace } }
  · exact { k with keys := { k.keys with lost := countUp_le _ }, link := k.link.setLatch _ }

theorem actEntry_kept (k : Kept free s) (e : KeyEntry) : Kept free (actEntry e s) := by
  unfold actEntry
  split
  · exact offerKey_kept k _
  · unfold keyAction
    split
    · split
      · exact startBreak_kept k
      · exact k
    · exact { k with fmt := k.fmt.congr rfl rfl rfl rfl rfl }
    · exact togglePause_kept k
  · exact k
  · exact k

theorem keyDown_kept (p : Nat) (k : Kept free s) : Kept free (keyDown p s) := by
  have changed {ks : Keys} (h : KeysKept ks) : Kept free { s with keys := ks } := { k with keys := h }
  unfold keyDown
  split
  · exact changed (k.keys.congr rfl rfl rfl rfl rfl rfl)
  · split
    · exact changed (k.keys.congr rfl rfl rfl rfl rfl rfl)
    · refine actEntry_kept (changed (newRepeat_kept ?_ p _ _)) _
      exact k.keys.congr rfl rfl rfl rfl rfl rfl

theorem handleEdges_kept (k : Kept free s) (ups downs : List Nat) : Kept free (handleEdges ups downs s) := by
  refine foldl_keeps (fun _ p hs => keyDown_kept p hs) _ _ ?_
  exact { k with keys := foldl_keeps refuseGhost_kept _ _ (foldl_keeps keyUp_kept ups _ k.keys) }

theorem scanReading_kept (k : Kept free s) (closed : List Nat) : Kept free (scanReading closed s) := by
  have kSlot : KeysKept (s.keys.nextSlot s.now) := k.keys.congr rfl rfl rfl rfl rfl rfl
  unfold scanReading
  dsimp only
  split
  · exact { k with keys := firstAll_kept kSlot _ }
  · refine handleEdges_kept ?_ _ _
    exact { k with keys := debounceAll_kept kSlot _ }

theorem endRepeat_kept (k : Kept free s) : Kept free (endRepeat s) := by
  have k1 : Kept free { s with keys := { s.keys with
      repeatTimer := some (s.now + 1000 * repeatInterval s.keys.repeatRate) } } := { k with keys := { k.keys with } }
  unfold endRepeat
  dsimp only
  split
  · split
    · exact offerKey_kept k1 _
    · exact k1
  · exact k1

theorem endBeep_kept (k : Kept free s) : Kept free (endBeep s) := { k with keys := { k.keys with } }

end Sys2Proof.Steps
end

section
/-!
Every command and every row keeps the block invariants; with that O53, O54, O56 and O58.
-/

namespace Sys2Proof.Steps

open Sys2Proof.Machine Sys2Proof.Safety Sys2Proof.Laws

variable {free : Nat} {s : State}

/-! ### The commands -/

/-- R180: a command refused at its judgement changes nothing. -/
theorem answer_keeps {α : Type} (kind : Byte) (read : Except Reason α) {act : α → State → State × Reply}
    (h : ∀ x s, read = .ok x → Kept 1 s → Kept 1 (act x s).1) : ActKeeps (answer kind read act) := by
  intro s k
  cases hr : read with
  | error reason => exact k
  | ok x => exact h x s hr k

theorem clampNat_bounds {low high : Nat} (h : low ≤ high) (n : Nat) : low ≤ clampNat low high n ∧ clampNat low high n ≤ high := by
  unfold clampNat
  omega

theorem readHead_ok {p : List Byte} {cfg : HeadConfig} {b : Bool} (h : readHead p = .ok (cfg, b)) : ConfigOk cfg := by
  unfold readHead at h
  split at h
  · split at h
    · obtain rfl := (Prod.mk.inj (Except.ok.inj h)).1
      exact ⟨clampNat_bounds (by decide) _, clampNat_bounds (by decide) _⟩
    · simp at h
  · simp at h

theorem setHead_keeps (p : List Byte) : ActKeeps (actSetHead p) := by
  intro s k
  unfold actSetHead judgeHead
  split
  · cases hc : s.head.config with
    | some c => exact k
    | none =>
      cases hr : readHead p with
      | error reason => exact k
      | ok x => exact configureHead_kept k hc (readHead_ok hr)
  · exact k

theorem setDensity_keeps (p : List Byte) : ActKeeps (actSetDensity p) := by
  refine answer_keeps _ _ fun x s hr k => ?_
  unfold readDensity at hr
  split at hr
  · split at hr
    · obtain rfl := Except.ok.inj hr
      refine { k with supply := ⟨?_, ?_⟩ } <;> simp only [setDensity, clampInt, clampNat] <;> omega
    · simp at hr
  · simp at hr

theorem printText_keeps (p : List Byte) : ActKeeps (actPrintText p) := by
  refine answer_keeps _ _ fun codes s _ k => ?_
  refine { k with fmt := { k.fmt with ptq := ?_, feeds := ?_ } }
  · have := k.fmt.ptq
    simp only [printText, ptqFree, Config.ptqCap, List.length_append, List.length_map, List.length_take]
    omega
  · intro it hit
    rcases List.mem_append.1 hit with h | h
    · exact k.fmt.feeds it h
    · obtain ⟨c, -, rfl⟩ := List.mem_map.1 h
      simp [rowsOf]

/-- R82: a directive record that finds a place. -/
theorem placeDirective_kept (k : Kept free s) (kind : Byte) (b : Bool) {d : Directive}
    (hfeed : ∀ n ∈ rowsOf (.directive d), 1 ≤ n ∧ n ≤ 255) : Kept free (placeDirective kind b d s).1 := by
  unfold placeDirective
  split
  · exact { k with fmt := k.fmt.congr rfl rfl rfl rfl rfl }
  · next hfull =>
    refine { k with fmt := { k.fmt with ptq := ?_, feeds := ?_ } }
    · have : 64 - s.fmt.ptq.length ≠ 0 := hfull
      simp only [List.length_append, List.length_singleton]
      omega
    · intro it hit
      rcases List.mem_append.1 hit with h | h
      · exact k.fmt.feeds it h
      · obtain rfl : it = .directive d := by simpa using h
        exact hfeed

theorem setFormat_keeps (p : List Byte) : ActKeeps (actSetFormat p) :=
  answer_keeps _ _ fun _ _ _ k => placeDirective_kept k _ _ (by simp [rowsOf])

theorem saveFormat_keeps (p : List Byte) : ActKeeps (actSaveFormat p) :=
  answer_keeps _ _ fun _ _ _ k => placeDirective_kept k _ _ (by simp [rowsOf])

theorem restoreFormat_keeps (p : List Byte) : ActKeeps (actRestoreFormat p) :=
  answer_keeps _ _ fun _ _ _ k => placeDirective_kept k _ _ (by simp [rowsOf])

theorem feed_keeps (p : List Byte) : ActKeeps (actFeed p) := by
  refine answer_keeps _ _ fun x s hr k => placeDirective_kept k _ _ ?_
  unfold readFeed at hr
  split at hr
  · obtain rfl := Except.ok.inj hr
    rintro n ⟨rfl⟩
    omega
  · simp at hr

theorem loadGlyph_keeps (p : List Byte) : ActKeeps (actLoadGlyph p) :=
  answer_keeps _ _ fun _ _ _ k => { k with fmt := k.fmt.congr rfl rfl rfl rfl rfl }

theorem readLine_ok {p : List Byte} {f : LineFormat} {b : Bool} (h : readLine p = .ok (f, b)) : FormatKept f := by
  unfold readLine at h
  split at h
  · split at h
    · split_ifs at h with hbits
      obtain rfl := (Prod.mk.inj (Except.ok.inj h)).1
      constructor
      · intro hpar
        by_contra h8
        exact hbits ⟨hpar, by simpa using h8⟩
      · rintro rfl
        simp
    · simp at h
  · simp at h

theorem setLine_keeps (p : List Byte) : ActKeeps (actSetLine p) := by
  refine answer_keeps _ _ fun x s hr k => ?_
  dsimp only
  split
  · refine { k with
      format := readLine_ok hr, signal := { k.signal with }
      router := { k.router with store := ?_ } }
    simp only [setLine]
    split
    · next hdeep =>
      have := k.router.store
      simpa [storeDepth, hdeep] using this
    · simp
  · exact k

theorem setCarrier_keeps (p : List Byte) : ActKeeps (actSetCarrier p) := by
  refine answer_keeps _ _ fun x s hr k => ?_
  unfold readCarrier at hr
  split at hr
  · split at hr
    · obtain rfl := Except.ok.inj hr
      exact { k with monitor := ⟨clampNat_bounds (by decide) _, clampNat_bounds (by decide) _⟩ }
    · simp at hr
  · simp at hr

theorem connect_keeps (p : List Byte) : ActKeeps (actConnect p) := by
  refine answer_keeps _ _ fun role s _ k => ?_
  split
  · exact changeConn_kept (restartMonitor_kept k _) _
  · exact k

theorem disconnect_keeps (p : List Byte) : ActKeeps (actDisconnect p) := by
  refine answer_keeps _ _ fun _ s _ k => ?_
  dsimp only [closeCall]
  split
  · exact changeConn_kept k _
  · exact changeConn_kept k _
  · exact enterIdle_kept k
  · exact enterIdle_kept k
  · exact enterIdle_kept k
  all_goals exact k

theorem break_keeps (p : List Byte) : ActKeeps (actBreak p) := by
  refine answer_keeps _ _ fun _ s _ k => ?_
  split
  · exact startBreak_kept k
  · exact k

theorem setLoop_kept (k : Kept free s) (loop : LoopMode) : ∀ t ∈ setLoop loop s, Kept free t := by
  unfold setLoop
  split
  · rintro _ ⟨rfl⟩; exact changeConn_kept (restartMonitor_kept k _) _
  · rintro _ ⟨rfl⟩
    refine changeConn_kept ?_ _
    exact setMonitor_kept k rfl rfl
  · rintro _ ⟨rfl⟩; exact enterIdle_kept k
  · rintro _ ⟨rfl⟩; exact setConn_kept k _
  · rintro _ ⟨rfl⟩; exact setConn_kept k _
  · rintro _ ⟨rfl⟩; exact setConn_kept k _
  · rintro _ ⟨rfl⟩; exact setConn_kept k _
  · simp

theorem setLoop_keeps (p : List Byte) : ActKeeps (actSetLoop p) := by
  refine answer_keeps _ _ fun loop s _ k => ?_
  split
  · next t ht => exact setLoop_kept k loop t ht
  · exact k

theorem setKeys_keeps (p : List Byte) : ActKeeps (actSetKeys p) := by
  refine answer_keeps _ _ fun x s hr k => ?_
  unfold readKeys at hr
  split at hr
  · split at hr
    · obtain rfl := Except.ok.inj hr
      exact { k with keys := { k.keys with
        debounce := clampNat_bounds (by decide) _
        delay := clampNat_bounds (by decide) _
        rate := clampNat_bounds (by decide) _ } }
    · simp at hr
  · simp at hr

theorem loadKeymap_keeps (p : List Byte) : ActKeeps (actLoadKeymap p) :=
  answer_keeps _ _ fun _ _ _ k => { k with keys := { k.keys with } }

theorem sendText_keeps (p : List Byte) : ActKeeps (actSendText p) := by
  refine answer_keeps _ _ fun codes s _ k => ?_
  refine { k with router := { k.router with stq := ?_ } }
  have := k.router.stq
  simp only [sendText, stqFree, Config.stqCap, List.length_append, List.length_take]
  omega

theorem setRoutes_keeps (p : List Byte) : ActKeeps (actSetRoutes p) :=
  answer_keeps _ _ fun _ _ _ k => { k with router := { k.router with } }

/-- R168: codes that differ, and a timeout that is 0 or from 5 to 120 s. -/
theorem readFlow_ok {p : List Byte} {x : FlowSettings} {b : Bool} (h : readFlow p = .ok (x, b)) :
    x.holdCode ≠ x.resumeCode ∧ (x.holdTimeout = 0 ∨ (5 ≤ x.holdTimeout ∧ x.holdTimeout ≤ 120)) := by
  unfold readFlow at h
  split at h
  · split at h
    · split_ifs at h with hsame
      obtain rfl := (Prod.mk.inj (Except.ok.inj h)).1
      refine ⟨hsame, ?_⟩
      unfold clampTimeout
      split
      · exact .inl rfl
      · exact .inr (clampNat_bounds (by decide) _)
    · simp at h
  · simp at h

theorem setFlow_keeps (p : List Byte) : ActKeeps (actSetFlow p) := by
  refine answer_keeps _ _ fun x s hr k => ?_
  obtain ⟨hcodes, htimeout⟩ := readFlow_ok hr
  have k1 : Kept 1 (setFlowCodes x.1 s) := { k with router := { k.router with codes := hcodes, timeout := htimeout } }
  dsimp only [setFlow]
  split_ifs
  · exact k1
  · refine judgeHold_kept ?_
    exact { k1 with router := { k1.router with } }
  · exact turnFlowOff_kept k1

theorem clearQueue_keeps (p : List Byte) : ActKeeps (actClearQueue p) := by
  refine answer_keeps _ _ fun q s _ k => ?_
  cases q with
  | stq =>
    refine checkStqRoom_kept ?_
    exact { k with router := { k.router with stq := Nat.zero_le _ } }
  | ptq =>
    refine checkPtqRoom_kept ?_
    exact { k with fmt := { k.fmt with ptq := Nat.zero_le _, feeds := nofun } }
  | key => exact { k with keys := { k.keys with queue := Nat.zero_le _ } }

theorem identify_keeps (p : List Byte) : ActKeeps (actIdentify p) := answer_keeps _ _ fun _ _ _ k => k

theorem restart_keeps (p : List Byte) : ActKeeps (actRestart p) :=
  answer_keeps _ _ fun _ _ _ k => { k with link := { k.link with } }

theorem readConditions_keeps (p : List Byte) : ActKeeps (actReadConditions p) := answer_keeps _ _ fun _ _ _ k => k

theorem readStatus_keeps (p : List Byte) : ActKeeps (actReadStatus p) := answer_keeps _ _ fun _ _ _ k => k

theorem setReports_keeps (p : List Byte) : ActKeeps (actSetReports p) :=
  answer_keeps _ _ fun _ _ _ k => { k with link := { k.link with } }

/-! ### Rows -/

/-- R194: a row keeps what its effect keeps. -/
theorem row_keeps {P : State → Prop} (settle : ∀ s, P s → P (settleRow s)) {f : State → State} {t : State} (hs : P s)
    (hf : P (f s)) (e : row f s = .next t) : P t := by
  rcases row_cases f s with ⟨-, e'⟩ | ⟨-, e'⟩ <;> rw [e'] at e <;> obtain rfl := Host.Outcome.next.inj e
  · exact hs
  · exact settle _ hf

theorem timerRow_keeps {P : State → Prop} (settle : ∀ s, P s → P (settleRow s)) {timer : State → Timer} {f : State → State}
    {t : State} (hs : P s) (hf : ∀ due, timer s = some due → P (f (atMoment due s))) (e : timerRow timer f s = .next t) : P t := by
  rcases timerRow_cases timer f s with e' | ⟨due, hdue, -, e'⟩ <;> rw [e'] at e <;> obtain rfl := Host.Outcome.next.inj e
  · exact hs
  · exact settle _ (hf due hdue)

section
variable {t : State}

theorem row_kept {f : State → State} (k : Kept 0 s) (e : row f s = .next t) (hf : Kept 0 (f s)) : Kept 0 t :=
  row_keeps (P := Kept 0) (fun _ => settleRow_kept) k hf e

theorem timerRow_kept {timer : State → Timer} {f : State → State} (k : Kept 0 s) (e : timerRow timer f s = .next t)
    (hf : ∀ due, timer s = some due → Kept 0 (f (atMoment due s))) : Kept 0 t :=
  timerRow_keeps (P := Kept 0) (fun _ => settleRow_kept) k hf e

theorem commandRow_kept {act : State → State × Reply} (hact : ActKeeps act) {kind : Byte} {dt : Micros} {p : List Byte} (k : Kept 0 s)
    (e : commandRow kind dt p act s = .next t) : Kept 0 t :=
  row_kept k e (complete_kept (after_kept k dt) kind p hact)

end

theorem forPhase_kept {f : Phase → State → State} (k : Kept free s)
    (hf : ∀ p, s.head.phase = some p → Kept free (f p s)) : Kept free (forPhase f s) := by
  unfold forPhase
  split
  · exact k
  · next p hp => exact hf p hp

/-- Every row keeps every block. -/
theorem exec_kept (i : Instr) {t : State} (k : Kept 0 s) (e : exec i s = .next t) : Kept 0 t := by
  have ran (dt : Micros) : Kept 0 (after dt s) := after_kept k dt
  have due (m : Micros) : Kept 0 (atMoment m s) := atMoment_kept k m
  cases i <;> dsimp only [exec] at e
  case identify dt p => exact commandRow_kept (identify_keeps p) k e
  case restart dt p => exact commandRow_kept (restart_keeps p) k e
  case readConditions dt p => exact commandRow_kept (readConditions_keeps p) k e
  case readStatus dt p => exact commandRow_kept (readStatus_keeps p) k e
  case setReports dt p => exact commandRow_kept (setReports_keeps p) k e
  case setHead dt p => exact commandRow_kept (setHead_keeps p) k e
  case setDensity dt p => exact commandRow_kept (setDensity_keeps p) k e
  case printText dt p => exact commandRow_kept (printText_keeps p) k e
  case setFormat dt p => exact commandRow_kept (setFormat_keeps p) k e
  case saveFormat dt p => exact commandRow_kept (saveFormat_keeps p) k e
  case restoreFormat dt p => exact commandRow_kept (restoreFormat_keeps p) k e
  case feed dt p => exact commandRow_kept (feed_keeps p) k e
  case loadGlyph dt p => exact commandRow_kept (loadGlyph_keeps p) k e
  case setLine dt p => exact commandRow_kept (setLine_keeps p) k e
  case setCarrier dt p => exact commandRow_kept (setCarrier_keeps p) k e
  case connect dt p => exact commandRow_kept (connect_keeps p) k e
  case disconnect dt p => exact commandRow_kept (disconnect_keeps p) k e
  case sendBreak dt p => exact commandRow_kept (break_keeps p) k e
  case setLoop dt p => exact commandRow_kept (setLoop_keeps p) k e
  case setKeys dt p => exact commandRow_kept (setKeys_keeps p) k e
  case loadKeymap dt p => exact commandRow_kept (loadKeymap_keeps p) k e
  case sendText dt p => exact commandRow_kept (sendText_keeps p) k e
  case setRoutes dt p => exact commandRow_kept (setRoutes_keeps p) k e
  case setFlow dt p => exact commandRow_kept (setFlow_keeps p) k e
  case clearQueue dt p => exact commandRow_kept (clearQueue_keeps p) k e
  case unknownKindFrame dt kind p => exact row_kept k e (rejectUnknown_kept (ran dt) kind p)
  case strayByte dt b => exact row_kept k e (countStray_kept (ran dt) b)
  case leadByte dt => exact row_kept k e (openFrame_kept (ran dt))
  case lengthByteAbove40 dt b => exact row_kept k e (longLength_kept (ran dt) b)
  case unreadyFrame dt => exact row_kept k e (endUnready_kept (ran dt))
  case gapTimerExpiry => exact timerRow_kept k e (fun m _ => tearFrame_kept (due m))
  case linkFrameEnd => exact timerRow_kept k e (fun m _ => endFrame_kept (due m))
  case powerUpReset dt =>
    obtain rfl : powerUp (after dt s) = t := Host.Outcome.next.inj e
    exact powerUp_kept _
  case generalResetFromPin dt =>
    obtain rfl : generalReset .pin none (after dt s) = t := Host.Outcome.next.inj e
    exact generalReset_kept (ran dt) _ _
  case resetEnd dt =>
    unfold execResetEnd at e
    split at e <;> obtain rfl := Host.Outcome.next.inj e
    · exact k
    · exact settleRow_kept (endReset_kept (resetMoment_kept k dt) _)
  case energizingTimerExpiry => exact timerRow_kept k e (fun m h => endEnergizing_kept (due m) (by simp [h]))
  case holdTimerExpiry => exact timerRow_kept k e (fun m h => endHold_kept (due m) (by simp [h]))
  case loadingEnd => exact timerRow_kept k e (fun m _ => forPhase_kept (due m) fun _ h => endLoading_kept (due m) h)
  case pulseEnd => exact timerRow_kept k e (fun m _ => forPhase_kept (due m) fun _ h => endPulse_kept (due m) h)
  case stepEnd => exact timerRow_kept k e (fun m h => endStep_kept (due m) (by simp [h]))
  case settlePeriodEnd => exact timerRow_kept k e (fun m _ => endSettle_kept (due m))
  case paperSensorChange dt =>
    unfold execPaperSensorChange at e
    split at e
    · exact Host.Outcome.next.inj e ▸ flipPaper_kept (ran dt)
    · exact row_kept k e (changePaper_kept (ran dt))
  case paperPresentTimerExpiry => exact timerRow_kept k e (fun m _ => endPaperTimer_kept (due m))
  case converterReading code => exact timerRow_kept k e (fun m _ => endConversion_kept (due m) code)
  case formatterTakeItem => exact row_kept k e (formatterTake_kept k)
  case lapseTimerExpiry => exact timerRow_kept k e (fun m _ => endLapse_kept (due m))
  case flushTimerExpiry => exact timerRow_kept k e (fun m _ => endFlushTimer_kept (due m))
  case drainCommit => exact row_kept k e (drainCommit_kept k)
  case formFeedEntryAppend => exact row_kept k e (formFeedAppend_kept k)
  case feedEntryAppend => exact row_kept k e (feedAppend_kept k)
  case halfPeriodEnd dt => exact row_kept k e (inputCrossing_kept k dt)
  case characterFinished => exact row_kept k e (characterFinished_kept k)
  case breakWatchEnd => exact row_kept k e (breakWatchEnd_kept k)
  case framerTake => exact row_kept k e (framerTake_kept k)
  case framerCharacterEnd => exact row_kept k e (framerCharacterEnd_kept k)
  case breakTimerExpiry => exact timerRow_kept k e (fun m _ => endBreak_kept (due m))
  case breakMarkEnd => exact timerRow_kept k e (fun m _ => endMark_kept (due m))
  case carrierWindowEnd => exact timerRow_kept k e (fun m _ => endWindow_kept (due m))
  case connectTimerExpiry => exact timerRow_kept k e (fun m _ => setLatch_kept (enterIdle_kept (due m)) _)
  case settleTimerExpiry => exact timerRow_kept k e (fun m _ => endSettleTimer_kept (due m))
  case dropoutTimerExpiry => exact timerRow_kept k e (fun m _ => setLatch_kept (enterIdle_kept (due m)) _)
  case clearingTimerExpiry => exact timerRow_kept k e (fun m _ => enterIdle_kept (due m))
  case remoteHoldTimerExpiry => exact timerRow_kept k e (fun m _ => endRemoteTimer_kept (due m))
  case routerTake src => exact row_kept k e (takeIfReady_kept k src)
  case scanReading closed => exact timerRow_kept k e (fun m _ => scanReading_kept (due m) closed)
  case repeatTimerExpiry => exact timerRow_kept k e (fun m _ => endRepeat_kept (due m))
  case beeperEndTime => exact timerRow_kept k e (fun m _ => endBeep_kept (due m))
  case cellCentre => exact row_kept k e (centreReached_kept k)
  case cellBoundary => exact row_kept k e (cellBoundary_kept k)
  case frameByteReceived dt b => exact row_kept k e (collectByte_kept (ran dt) b)
  case wrongCheckByte dt kind p check => exact row_kept k e (rejectCheck_kept (ran dt) kind p check)

/-- Every step from a sound state keeps every block. -/
theorem step_kept {t : State} (hs : Sound s) (e : step s = .next t) : Kept 0 t := by
  have k := Kept.of_sound hs
  unfold step at e
  split at e
  · exact Host.Outcome.next.inj e ▸ k
  · refine exec_kept _ ?_ e
    exact { k with }

/-- Settles O53: the link, the formatter, the router and the keyboard block of `step_kept`. -/
theorem queuesNeverOverflow : Obligations.QueuesNeverOverflow :=
  fun _ _ hs e => ⟨(step_kept hs e).queuesFit, (step_kept hs e).slotAgrees⟩

/-- Settles O54: the settings, the counters and the frame sent, of every block of `step_kept`. -/
theorem settingsStayInRange : Obligations.SettingsStayInRange :=
  fun _ _ hs e => ⟨(step_kept hs e).settingsOk, (step_kept hs e).countersFit, (step_kept hs e).wireOk⟩

/-- Settles O56: the driver's block of `step_kept`. -/
theorem driverStaysSound : Obligations.DriverStaysSound := fun _ _ hs e => (step_kept hs e).driverOk

/-- Settles O58: the rows of the driver's block of `step_kept`. -/
theorem rowsStaySound : Obligations.RowsStaySound := fun _ _ hs e => (step_kept hs e).rowsOk

end Sys2Proof.Steps
end

section
/-!
The head configuration: only SET HEAD sets it and only a power-up reset loses it (R2, R194).
-/

namespace Sys2Proof.Steps

open Sys2Proof.Machine Sys2Proof.Safety Sys2Proof.Laws

variable {s t : State} {c : Option HeadConfig}

/-! ### The driver's own operations -/

theorem stepStart_config (b : Bool) (s : State) : (stepStart b s).head.config = s.head.config := by
  unfold stepStart
  dsimp only
  split_ifs <;> rfl

theorem phaseStart_config (cfg : HeadConfig) (r : BurnRow) (s : State) : (phaseStart cfg r s).head.config = s.head.config := by
  unfold phaseStart
  dsimp only
  split_ifs <;> rfl

theorem proceed_config (s : State) : (proceed s).head.config = s.head.config := by
  unfold proceed
  split
  · split
    · split
      · rfl
      · split
        · exact phaseStart_config _ _ _
        · rfl
    · exact stepStart_config _ _
  · exact stepStart_config _ _
  · rfl

theorem approach_config (s : State) : (approach s).head.config = s.head.config := by
  unfold approach
  split
  · rfl
  · exact proceed_config s

theorem beginRow_config (s : State) : (beginRow s).head.config = s.head.config := by
  unfold beginRow
  split
  · rfl
  · exact approach_config _

theorem endRow_config (s : State) : (endRow s).head.config = s.head.config := by
  unfold endRow
  split
  · rfl
  · exact beginRow_config _

theorem appendEntries_config (es : List RowEntry) (s : State) : (appendEntries es s).head.config = s.head.config := by
  unfold appendEntries
  dsimp only
  split
  · exact beginRow_config _
  · rfl

theorem endPulse_config (p : Phase) (s : State) : (endPulse p s).head.config = s.head.config := by
  unfold endPulse
  dsimp only
  split
  · split
    · exact stepStart_config _ _
    · split
      · exact phaseStart_config _ _ _
      · rfl
  · rfl

theorem endStep_config (s : State) : (endStep s).head.config = s.head.config := by
  unfold endStep
  dsimp only
  split
  · exact endRow_config _
  · split
    · exact endRow_config _
    · exact stepStart_config _ _
  · rfl

theorem endSettle_config (s : State) : (endSettle s).head.config = s.head.config := by
  unfold endSettle
  dsimp only
  split
  · exact proceed_config _
  · rfl

theorem removeReasons_config (gone : Reasons) (s : State) : (removeReasons gone s).head.config = s.head.config := by
  unfold removeReasons
  split
  · dsimp only
    split
    · exact approach_config _
    · rfl
  · rfl

theorem retryStart_config (s : State) : (retryStart s).head.config = s.head.config := by
  unfold retryStart
  split
  · exact proceed_config s
  · rfl

theorem rejudge_head (s : State) : (rejudge s).head = s.head := by
  obtain ⟨u, k, e⟩ := rejudge_touches s
  rw [e]

theorem endConversion_config (code : Byte) (s : State) : (endConversion code s).head.config = s.head.config := by
  unfold endConversion
  dsimp only
  split
  · rw [retryStart_config, afterBattery, removeReasons_config, rejudge_head]
    rfl
  · rw [retryStart_config, afterTemp, removeReasons_config]
    rfl
  · rfl

theorem forPhase_config {f : Phase → State → State} (h : ∀ p s, (f p s).head.config = s.head.config) (s : State) :
    (forPhase f s).head.config = s.head.config := by
  unfold forPhase
  split
  · rfl
  · exact h _ s

/-! ### The formatter's operations -/

theorem commitOldest_config (s : State) : (commitOldest s).head.config = s.head.config := by
  unfold commitOldest
  split
  · rfl
  · exact appendEntries_config _ _

theorem lineAdvance_config (s : State) : (lineAdvance s).head.config = s.head.config := by
  unfold lineAdvance
  dsimp only
  split_ifs
  · rfl
  · rfl
  · rfl
  · exact commitOldest_config s

theorem putPrintable_config (b : Byte) (s : State) : (putPrintable b s).head.config = s.head.config := by
  unfold putPrintable makeFit
  dsimp only
  split_ifs
  · rfl
  · exact lineAdvance_config _
  · rfl

theorem verticalTab_head (s : State) : (verticalTab s).head = s.head := by
  unfold verticalTab
  split_ifs <;> rfl

theorem carryChar_config (b : Byte) (s : State) : (carryChar b s).head.config = s.head.config :=
  carryChar_cases (P := fun t => t.head.config = s.head.config) b s (fun _ => putPrintable_config b s)
    (fun _ => lineAdvance_config s) (fun _ => lineAdvance_config _) (by rw [verticalTab_head]) (fun _ _ => rfl) rfl rfl

theorem takeItem_config (o : Owner) (it : Item) (s : State) : (takeItem o it s).head.config = s.head.config := by
  cases it with
  | char b => exact carryChar_config b _
  | directive d =>
    obtain ⟨f, k, e⟩ := carryDirective_touches { s with fmt := { s.fmt with owner := o, activity := .ready } } d
    simp only [takeItem, e, afterItem]

theorem checkPtqRoom_head (s : State) : (checkPtqRoom s).head = s.head := by
  obtain ⟨w, k, e⟩ := checkPtqRoom_touches s
  rw [e]

theorem takePtq_config (s : State) : (takePtq s).head.config = s.head.config := by
  unfold takePtq
  split
  · rfl
  · rw [takeItem_config, checkPtqRoom_head]

theorem takeKeyFeed_config (s : State) : (takeKeyFeed s).head.config = s.head.config := takeItem_config _ _ _

theorem takeSource_config (src : Source) (s : State) : (takeSource src s).head.config = s.head.config := by
  obtain ⟨-, -, -, -, hhead⟩ := removeHead_sinks src s
  unfold takeSource
  split
  · rfl
  · dsimp only
    split
    · rw [takeItem_config]
      exact congrArg Head.config hhead
    · exact congrArg Head.config hhead

theorem takeOwned_config (s : State) : (takeOwned s).head.config = s.head.config := by
  unfold takeOwned
  split
  · rfl
  · exact takeSource_config _ s
  · split
    · exact takeKeyFeed_config s
    · exact takeSource_config _ s
  · exact takeSource_config _ s
  · exact takePtq_config s

theorem endStall_config (s : State) : (endStall s).head.config = s.head.config := by
  unfold endStall
  split
  · split
    · rfl
    · split_ifs
      · exact takeOwned_config s
      · rfl
      · rfl
  · rfl

theorem grant_head (s : State) : (grant s).head = s.head := by
  obtain ⟨o, l, e⟩ := grant_touches s
  rw [e]

theorem beginStall_head (s : State) : (beginStall s).head = s.head := by
  obtain ⟨a, l, f, e⟩ := beginStall_touches s
  rw [e]

theorem kickLink_head (s : State) : (kickLink s).head = s.head := by
  obtain ⟨k, rx, kd, e⟩ := kickLink_touches s
  rw [e]

theorem judgeFormatter_config (s : State) : (judgeFormatter s).head.config = s.head.config := by
  unfold judgeFormatter
  rw [beginStall_head, grant_head, endStall_config]

theorem settleRow_config (s : State) : (settleRow s).head.config = s.head.config := by
  unfold settleRow
  rw [judgeFormatter_config, kickLink_head, judgeFormatter_config, settleTone_head]

theorem formatterTake_config (s : State) : (formatterTake s).head.config = s.head.config := by
  have hg : (grant s).head.config = s.head.config := by rw [grant_head]
  unfold formatterTake
  dsimp only
  split_ifs
  · rfl
  · split
    · rfl
    · split_ifs
      · exact (takePtq_config _).trans hg
      · rfl
  · exact (takeKeyFeed_config _).trans hg
  · rfl
  · rfl

theorem lastCommitted_head (d : Drain) (s : State) : (lastCommitted d s).head = s.head := by
  cases d with
  | formFeed entries => simp only [lastCommitted]; split <;> rfl
  | _ => rfl

theorem drainCommit_config (s : State) : (drainCommit s).head.config = s.head.config := by
  unfold drainCommit
  split
  · split
    · dsimp only
      split
      · rw [lastCommitted_head, commitOldest_config]
      · exact commitOldest_config s
    · rfl
  · rfl

theorem formFeedAppend_config (s : State) : (formFeedAppend s).head.config = s.head.config := by
  unfold formFeedAppend
  split
  · split
    · dsimp only
      split <;> exact appendEntries_config _ _
    · rfl
  · rfl

theorem feedAppend_config (s : State) : (feedAppend s).head.config = s.head.config := by
  unfold feedAppend
  split
  · split
    · exact appendEntries_config _ s
    · rfl
  · rfl

theorem takeIfReady_config (src : Source) (s : State) : (takeIfReady src s).head.config = s.head.config := by
  unfold takeIfReady
  split
  · exact takeSource_config src s
  · rfl

theorem endFlushTimer_head (s : State) : (endFlushTimer s).head = s.head := by
  unfold endFlushTimer
  dsimp only
  split <;> rfl

/-! ### The link's, the line's and the keyboard's operations leave the driver alone -/

theorem complete_config (kind : Byte) (p : List Byte) {act : State → State × Reply}
    (hact : ∀ s, (act s).1.head.config = s.head.config) (s : State) :
    (complete kind p act s).head.config = s.head.config := by
  rcases complete_cases (kind := kind) (p := p) act s with e | e | ⟨-, e⟩ <;> rw [e]
  · rfl
  · exact hact _

theorem rejectUnknown_config (kind : Byte) (p : List Byte) (s : State) :
    (rejectUnknown kind p s).head.config = s.head.config := by
  unfold rejectUnknown
  split
  · rfl
  · exact complete_config kind p (fun _ => rfl) s

theorem rejectCheck_config (kind : Byte) (p : List Byte) (check : Byte) (s : State) :
    (rejectCheck kind p check s).head.config = s.head.config := by
  unfold rejectCheck
  split
  · rfl
  · exact complete_config kind p (fun _ => rfl) s

theorem countStray_head (b : Byte) (s : State) : (countStray b s).head = s.head := by
  unfold countStray; repeat' split
  all_goals rfl

theorem openFrame_head (s : State) : (openFrame s).head = s.head := by
  unfold openFrame; split <;> rfl

theorem longLength_head (b : Byte) (s : State) : (longLength b s).head = s.head := by
  unfold longLength endByLength; repeat' split
  all_goals rfl

theorem endUnready_head (s : State) : (endUnready s).head = s.head := by
  unfold endUnready; repeat' split
  all_goals rfl

theorem tearFrame_head (s : State) : (tearFrame s).head = s.head := by
  unfold tearFrame; split <;> rfl

theorem collectByte_head (b : Byte) (s : State) : (collectByte b s).head = s.head := by
  unfold collectByte; repeat' split
  all_goals rfl

theorem endFrame_config (s : State) : (endFrame s).head.config = s.head.config := by
  unfold endFrame endTxFrame
  split
  · rfl
  · dsimp only
    split <;> rfl

theorem changeConn_head (new : Conn) (s : State) : (changeConn new s).head = s.head := by
  obtain ⟨g, h, f, k, e⟩ := changeConn_touches s new
  rw [e]

theorem enterIdle_head (s : State) : (enterIdle s).head = s.head := by
  obtain ⟨c, g, m, r, k, e⟩ := enterIdle_touches s
  rw [e]

theorem arrive_head (x : RxChar) (s : State) : (arrive x s).head = s.head := by
  obtain ⟨r, k, e⟩ := arrive_touches s x
  rw [e]

theorem judgeHold_head (s : State) : (judgeHold s).head = s.head := by
  obtain ⟨h, f, k, e⟩ := judgeHold_touches s
  rw [e]

end Sys2Proof.Steps
end

section
/-!
O59: only SET HEAD sets the head configuration, and only a power-up reset loses it (R2, R194).
-/

namespace Sys2Proof.Steps

open Sys2Proof.Machine Sys2Proof.Safety Sys2Proof.Laws

/-! ### The line, the connection and the keyboard leave the driver alone -/

theorem finishChar_head (x : RxChar) (spoiled : Bool) (s : State) : (finishChar x spoiled s).head = s.head := by
  unfold finishChar handOn
  split
  · rw [arrive_head]
  · rfl

theorem characterFinished_head (s : State) : (characterFinished s).head = s.head := by
  unfold characterFinished
  split
  · split
    · unfold lastCentre
      dsimp only
      split
      · rfl
      · rw [finishChar_head]; rfl
    · rfl
  · split
    · unfold finishHeld
      rw [finishChar_head]; rfl
    · rfl
  · rfl

theorem centreReached_head (s : State) : (centreReached s).head = s.head := by
  unfold centreReached
  split
  · split <;> rfl
  · rfl

theorem breakWatchEnd_head (s : State) : (breakWatchEnd s).head = s.head := by
  unfold breakWatchEnd breakReceived
  split
  · split
    · rfl
    · dsimp only
      split <;> rfl
  · rfl

theorem crossing_head (t : Nat) (s : State) : (crossing t s).head = s.head := by
  unfold crossing
  dsimp only
  split <;> rfl

theorem inputCrossing_head (dt : Micros) (s : State) : (inputCrossing dt s).head = s.head := by
  unfold inputCrossing ownCrossing micCrossing
  split
  · split
    · rfl
    · rw [crossing_head]; rfl
  · rw [crossing_head]; rfl

theorem framerTake_head (s : State) : (framerTake s).head = s.head := by
  unfold framerTake
  split
  · split
    · rfl
    · split
      · split <;> rfl
      · rfl
  · rfl

theorem cellBoundary_head (s : State) : (cellBoundary s).head = s.head := by
  unfold cellBoundary
  split
  · split <;> rfl
  · rfl

theorem framerCharacterEnd_head (s : State) : (framerCharacterEnd s).head = s.head := by
  unfold framerCharacterEnd characterEnd
  split
  · split
    · dsimp only
      split
      · unfold handOn
        rw [arrive_head]
        rfl
      · rfl
    · rfl
  · rfl

theorem onPresent_head (s : State) : (onPresent s).head = s.head := by
  unfold onPresent
  split
  · exact changeConn_head _ s
  · exact changeConn_head _ s
  · exact changeConn_head _ s
  all_goals rfl

theorem onAbsent_head (s : State) : (onAbsent s).head = s.head := by
  unfold onAbsent
  split
  · exact changeConn_head _ s
  all_goals rfl

theorem endWindow_head (s : State) : (endWindow s).head = s.head := by
  unfold endWindow
  dsimp only
  split
  · rfl
  · rw [onPresent_head]
  · rw [onAbsent_head]

theorem endSettleTimer_head (s : State) : (endSettleTimer s).head = s.head := by
  unfold endSettleTimer
  split <;> exact changeConn_head _ s

theorem endRemoteTimer_head (s : State) : (endRemoteTimer s).head = s.head := rfl

theorem offerKey_head (x : KeyChar) (s : State) : (offerKey x s).head = s.head := by
  unfold offerKey
  split <;> rfl

theorem actEntry_head (e : KeyEntry) (s : State) : (actEntry e s).head = s.head := by
  unfold actEntry keyAction
  split
  · exact offerKey_head _ s
  · split
    · split <;> rfl
    · rfl
    · exact judgeHold_head _
  · rfl
  · rfl

theorem keyDown_head (p : Nat) (s : State) : (keyDown p s).head = s.head := by
  unfold keyDown
  split
  · rfl
  · split
    · rfl
    · exact actEntry_head _ _

theorem scanReading_head (closed : List Nat) (s : State) : (scanReading closed s).head = s.head := by
  unfold scanReading
  dsimp only
  split
  · rfl
  · exact foldl_keeps (P := fun t : State => t.head = s.head) (fun t p ht => (keyDown_head p t).trans ht) _ _ rfl

theorem endRepeat_head (s : State) : (endRepeat s).head = s.head := by
  unfold endRepeat
  dsimp only
  split
  · split
    · exact offerKey_head _ _
    · rfl
  · rfl

/-! ### Commands -/

/-- R180: a command refused at its judgement changes nothing. -/
theorem answer_head {α : Type} (kind : Byte) (read : Except Reason α) {act : α → State → State × Reply}
    (h : ∀ x s, (act x s).1.head = s.head) (s : State) : (answer kind read act s).1.head = s.head := by
  cases read with
  | error reason => rfl
  | ok x => exact h x s

theorem placeDirective_head (kind : Byte) (b : Bool) (d : Directive) (s : State) :
    (placeDirective kind b d s).1.head = s.head := by
  unfold placeDirective
  split <;> rfl

theorem closeCall_head (s : State) : (closeCall s).head = s.head := by
  unfold closeCall
  split
  · exact changeConn_head _ s
  · exact changeConn_head _ s
  · exact enterIdle_head s
  · exact enterIdle_head s
  · exact enterIdle_head s
  all_goals rfl

theorem setLoop_head (loop : LoopMode) (s : State) : ∀ t ∈ setLoop loop s, t.head = s.head := by
  unfold setLoop
  split
  · rintro _ ⟨rfl⟩; exact changeConn_head _ _
  · rintro _ ⟨rfl⟩; exact changeConn_head _ _
  · rintro _ ⟨rfl⟩; exact enterIdle_head _
  · rintro _ ⟨rfl⟩; rfl
  · rintro _ ⟨rfl⟩; rfl
  · rintro _ ⟨rfl⟩; rfl
  · rintro _ ⟨rfl⟩; rfl
  · simp

theorem setFlow_head (x : FlowSettings) (s : State) : (setFlow x s).head = s.head := by
  unfold setFlow
  dsimp only
  split_ifs
  · rfl
  · exact judgeHold_head _
  · unfold turnFlowOff
    dsimp only
    split <;> rfl

theorem connect_head (p : List Byte) (s : State) : (actConnect p s).1.head = s.head := by
  refine answer_head _ _ (fun role s => ?_) s
  split
  · exact changeConn_head _ _
  · rfl

theorem break_head (p : List Byte) (s : State) : (actBreak p s).1.head = s.head := by
  refine answer_head _ _ (fun _ s => ?_) s
  split <;> rfl

theorem setLine_head (p : List Byte) (s : State) : (actSetLine p s).1.head = s.head := by
  refine answer_head _ _ (fun x s => ?_) s
  dsimp only
  split <;> rfl

theorem actSetLoop_head (p : List Byte) (s : State) : (actSetLoop p s).1.head = s.head := by
  refine answer_head _ _ (fun loop s => ?_) s
  split
  · next t ht => exact setLoop_head loop s t ht
  · rfl

theorem clearQueue_head (p : List Byte) (s : State) : (actClearQueue p s).1.head = s.head := by
  refine answer_head _ _ (fun q s => ?_) s
  cases q with
  | stq =>
    show (checkStqRoom _).head = _
    unfold checkStqRoom
    split <;> rfl
  | ptq => exact checkPtqRoom_head _
  | key => rfl

theorem resetMoment_config (dt : Micros) (s : State) : (resetMoment dt s).head.config = s.head.config := by
  unfold resetMoment
  split <;> rfl

/-- R2: a configured head is LOCKED. -/
theorem setHead_locked (p : List Byte) {s : State} {cfg : HeadConfig} (h : s.head.config = some cfg) :
    (actSetHead p s).1.head.config = some cfg := by
  unfold actSetHead judgeHead
  split
  · simp [h, answer]
  · exact h

/-! ### Rows -/

section
variable {s t : State} {c : Option HeadConfig}

theorem row_config {f : State → State} (e : row f s = .next t) (hf : (f s).head.config = s.head.config) :
    t.head.config = s.head.config :=
  row_keeps (P := fun t => t.head.config = s.head.config) (fun u h => (settleRow_config u).trans h) rfl hf e

theorem timerRow_config {timer : State → Timer} {f : State → State} (e : timerRow timer f s = .next t)
    (hf : ∀ u, (f u).head.config = u.head.config) : t.head.config = s.head.config :=
  timerRow_keeps (P := fun t => t.head.config = s.head.config) (fun u h => (settleRow_config u).trans h) rfl
    (fun _ _ => hf _) e

theorem timerRow_head {timer : State → Timer} {f : State → State} (e : timerRow timer f s = .next t)
    (hf : ∀ u, (f u).head = u.head) : t.head.config = s.head.config :=
  timerRow_config e fun u => congrArg Head.config (hf u)

theorem commandRow_config {act : State → State × Reply} {kind : Byte} {dt : Micros} {p : List Byte}
    (e : commandRow kind dt p act s = .next t) (hact : ∀ u, (act u).1.head = u.head) : t.head.config = s.head.config :=
  row_config e (complete_config kind p (fun u => congrArg Head.config (hact u)) _)

/-- R2: SET HEAD keeps a configuration that is set. -/
theorem setHead_config {dt : Micros} {p : List Byte} {cfg : HeadConfig} (h : s.head.config = some cfg)
    (e : exec (.setHead dt p) s = .next t) : t.head.config = some cfg := by
  dsimp only [exec, execSetHead, commandRow] at e
  refine row_keeps (P := fun t => t.head.config = some cfg) (fun u h => (settleRow_config u).trans h) h ?_ e
  rcases complete_cases (kind := 0x08) (p := p) (s := after dt s) (actSetHead p) with e | e | ⟨-, e⟩ <;> rw [e]
  · exact h
  · exact h
  · exact setHead_locked p h

/-- R2, R194: every row but SET HEAD and a power-up reset leaves the head configuration as it is. -/
theorem exec_config (i : Instr) (e : exec i s = .next t) (hset : ∀ dt p, i ≠ .setHead dt p)
    (hpower : ∀ dt, i ≠ .powerUpReset dt) : t.head.config = s.head.config := by
  cases i <;> dsimp only [exec] at e
  case identify dt p => exact commandRow_config e (answer_head _ _ fun _ _ => rfl)
  case restart dt p => exact commandRow_config e (answer_head _ _ fun _ _ => rfl)
  case readConditions dt p => exact commandRow_config e (answer_head _ _ fun _ _ => rfl)
  case readStatus dt p => exact commandRow_config e (answer_head _ _ fun _ _ => rfl)
  case setReports dt p => exact commandRow_config e (answer_head _ _ fun _ _ => rfl)
  case setHead dt p => exact absurd rfl (hset dt p)
  case setDensity dt p => exact commandRow_config e (answer_head _ _ fun _ _ => rfl)
  case printText dt p => exact commandRow_config e (answer_head _ _ fun _ _ => rfl)
  case setFormat dt p => exact commandRow_config e (answer_head _ _ fun _ _ => placeDirective_head _ _ _ _)
  case saveFormat dt p => exact commandRow_config e (answer_head _ _ fun _ _ => placeDirective_head _ _ _ _)
  case restoreFormat dt p => exact commandRow_config e (answer_head _ _ fun _ _ => placeDirective_head _ _ _ _)
  case feed dt p => exact commandRow_config e (answer_head _ _ fun _ _ => placeDirective_head _ _ _ _)
  case loadGlyph dt p => exact commandRow_config e (answer_head _ _ fun _ _ => rfl)
  case setLine dt p => exact commandRow_config e (setLine_head p)
  case setCarrier dt p => exact commandRow_config e (answer_head _ _ fun _ _ => rfl)
  case connect dt p => exact commandRow_config e (connect_head p)
  case disconnect dt p => exact commandRow_config e (answer_head _ _ fun _ _ => closeCall_head _)
  case sendBreak dt p => exact commandRow_config e (break_head p)
  case setLoop dt p => exact commandRow_config e (actSetLoop_head p)
  case setKeys dt p => exact commandRow_config e (answer_head _ _ fun _ _ => rfl)
  case loadKeymap dt p => exact commandRow_config e (answer_head _ _ fun _ _ => rfl)
  case sendText dt p => exact commandRow_config e (answer_head _ _ fun _ _ => rfl)
  case setRoutes dt p => exact commandRow_config e (answer_head _ _ fun _ _ => rfl)
  case setFlow dt p => exact commandRow_config e (answer_head _ _ fun _ _ => setFlow_head _ _)
  case clearQueue dt p => exact commandRow_config e (clearQueue_head p)
  case unknownKindFrame dt kind p => exact row_config e (rejectUnknown_config kind p _)
  case strayByte dt b => exact row_config e (congrArg Head.config (countStray_head b _))
  case leadByte dt => exact row_config e (congrArg Head.config (openFrame_head _))
  case lengthByteAbove40 dt b => exact row_config e (congrArg Head.config (longLength_head b _))
  case unreadyFrame dt => exact row_config e (congrArg Head.config (endUnready_head _))
  case gapTimerExpiry => exact timerRow_head e tearFrame_head
  case linkFrameEnd => exact timerRow_config e endFrame_config
  case powerUpReset dt => exact absurd rfl (hpower dt)
  case generalResetFromPin dt => exact Host.Outcome.next.inj e ▸ rfl
  case resetEnd dt =>
    unfold execResetEnd at e
    split at e <;> obtain rfl := Host.Outcome.next.inj e
    · rfl
    · exact (settleRow_config _).trans (resetMoment_config dt s)
  case energizingTimerExpiry => exact timerRow_config e fun u => proceed_config _
  case holdTimerExpiry => exact timerRow_config e fun _ => rfl
  case loadingEnd => exact timerRow_config e (forPhase_config fun _ _ => rfl)
  case pulseEnd => exact timerRow_config e (forPhase_config endPulse_config)
  case stepEnd => exact timerRow_config e endStep_config
  case settlePeriodEnd => exact timerRow_config e endSettle_config
  case paperSensorChange dt =>
    unfold execPaperSensorChange at e
    split at e
    · exact Host.Outcome.next.inj e ▸ rfl
    · exact row_config e rfl
  case paperPresentTimerExpiry => exact timerRow_config e fun u => removeReasons_config _ _
  case converterReading code => exact timerRow_config e (endConversion_config code)
  case formatterTakeItem => exact row_config e (formatterTake_config s)
  case lapseTimerExpiry => exact timerRow_config e fun _ => rfl
  case flushTimerExpiry => exact timerRow_head e endFlushTimer_head
  case drainCommit => exact row_config e (drainCommit_config s)
  case formFeedEntryAppend => exact row_config e (formFeedAppend_config s)
  case feedEntryAppend => exact row_config e (feedAppend_config s)
  case halfPeriodEnd dt => exact row_config e (congrArg Head.config (inputCrossing_head dt s))
  case characterFinished => exact row_config e (congrArg Head.config (characterFinished_head s))
  case breakWatchEnd => exact row_config e (congrArg Head.config (breakWatchEnd_head s))
  case framerTake => exact row_config e (congrArg Head.config (framerTake_head s))
  case framerCharacterEnd => exact row_config e (congrArg Head.config (framerCharacterEnd_head s))
  case breakTimerExpiry => exact timerRow_config e fun _ => rfl
  case breakMarkEnd => exact timerRow_config e fun _ => rfl
  case carrierWindowEnd => exact timerRow_head e endWindow_head
  case connectTimerExpiry => exact timerRow_head e enterIdle_head
  case settleTimerExpiry => exact timerRow_head e endSettleTimer_head
  case dropoutTimerExpiry => exact timerRow_head e enterIdle_head
  case clearingTimerExpiry => exact timerRow_head e enterIdle_head
  case remoteHoldTimerExpiry => exact timerRow_head e endRemoteTimer_head
  case routerTake src => exact row_config e (takeIfReady_config src s)
  case scanReading closed => exact timerRow_head e (scanReading_head closed)
  case repeatTimerExpiry => exact timerRow_head e endRepeat_head
  case beeperEndTime => exact timerRow_config e fun _ => rfl
  case cellCentre => exact row_config e (congrArg Head.config (centreReached_head s))
  case cellBoundary => exact row_config e (congrArg Head.config (cellBoundary_head s))
  case frameByteReceived dt b => exact row_config e (congrArg Head.config (collectByte_head b _))
  case wrongCheckByte dt kind p check => exact row_config e (rejectCheck_config kind p check _)

theorem powerUpReset_config {dt : Micros} (e : exec (.powerUpReset dt) s = .next t) : t.head.config = none := by
  obtain rfl : powerUp (after dt s) = t := Host.Outcome.next.inj e
  rfl

end

/-- Settles O59: `exec_config` for every other row, SET HEAD being LOCKED on a configured head. -/
theorem headConfigurationStands : Obligations.HeadConfigurationStands := by
  intro i s t e
  refine ⟨fun cfg hc hpower => ?_, ?_, fun hnone hset => ?_⟩
  · by_cases hi : ∃ dt p, i = .setHead dt p
    · obtain ⟨dt, p, rfl⟩ := hi
      exact setHead_config hc e
    · exact (exec_config i e (fun dt p h => hi ⟨dt, p, h⟩) hpower).trans hc
  · rintro dt rfl
    exact powerUpReset_config e
  · by_contra hi
    refine hset ?_
    by_cases hp : ∃ dt, i = .powerUpReset dt
    · obtain ⟨dt, rfl⟩ := hp
      exact powerUpReset_config e
    · exact (exec_config i e (fun dt p h => hi ⟨dt, p, h⟩) fun dt h => hp ⟨dt, h⟩).trans hnone

end Sys2Proof.Steps
end

section
/-!
What the driver's starts come to, case by case (R4, R6, R8, R10, R14, R17), and with that O13, O14, O15 and O16.
-/

namespace Sys2Proof.Steps

open Sys2Proof.Machine Sys2Proof.Safety Sys2Proof.Laws

variable {s : State}

/-! ### The start of the row in hand -/

theorem proceed_feed {c left : Nat} (h : s.head.row = some (.feed c left)) :
    proceed s = stepStart true { s with head := { s.head with hold := none } } := by
  simp only [proceed, h]

theorem proceed_step {r : BurnRow} (h : s.head.row = some (.burn r)) (hn : r.next = .step) :
    proceed s = stepStart false { s with head := { s.head with hold := none } } := by
  simp only [proceed, h, hn]

theorem proceed_settling {r : BurnRow} (h : s.head.row = some (.burn r)) (hn : r.next = .phase) (hfirst : r.hot = none)
    (hsettle : s.head.settle ≠ none) :
    proceed s = { s with head := { s.head with state := .settling, reasons := .none, waiting := false, hold := none } } := by
  have hs : s.head.settle.isSome = true := Option.isSome_iff_ne_none.2 hsettle
  simp only [proceed, h, hn, hfirst, hs, Option.isNone_none, Bool.and_self, if_true]

theorem proceed_phase {r : BurnRow} {cfg : HeadConfig} (h : s.head.row = some (.burn r)) (hn : r.next = .phase)
    (hready : r.hot ≠ none ∨ s.head.settle = none) (hc : s.head.config = some cfg) :
    proceed s = phaseStart cfg r { s with head := { s.head with state := .burning, reasons := .none, hold := none } } := by
  have hno : ¬ (r.hot.isNone && s.head.settle.isSome) = true := by
    simp only [Bool.and_eq_true, Option.isNone_iff_eq_none, Option.isSome_iff_ne_none, not_and, not_not]
    intro hfirst
    exact hready.resolve_left (not_not.2 hfirst)
  simp only [proceed, h, hn, hc, if_neg hno]

theorem approach_released (h : s.head.motor = .released) : approach s = enterEnergizing s := if_pos h

theorem approach_held (h : s.head.motor = .held) : approach s = proceed s := if_neg (by simp [h])

theorem beginRow_nil (h : s.head.queue = []) : beginRow s = s := by simp only [beginRow, h]

theorem beginRow_cons {e : RowEntry} {rest : List RowEntry} (h : s.head.queue = e :: rest) :
    beginRow s = approach { s with head := { s.head with queue := rest, row := some e.record } } := by
  simp only [beginRow, h]

theorem beginRow_released {e : RowEntry} {rest : List RowEntry} (h : s.head.queue = e :: rest)
    (hm : s.head.motor = .released) : beginRow s = { s with head := { s.head with
      queue := rest, row := some e.record, state := .energizing, reasons := .none, waiting := false, hold := none
      motor := .energizing, energize := some (s.now + 20000) } } :=
  (beginRow_cons h).trans (approach_released hm)

theorem beginRow_held {e : RowEntry} {rest : List RowEntry} (h : s.head.queue = e :: rest) (hm : s.head.motor = .held) :
    beginRow s = proceed { s with head := { s.head with queue := rest, row := some e.record } } :=
  (beginRow_cons h).trans (approach_held hm)

theorem endRow_nil (h : s.head.queue = []) : endRow s
    = { s with head := { s.head with state := .idle, row := none, hold := some (s.now + 400000) } } := by
  simp only [endRow, h, Config.holdTime]

theorem endRow_queue (h : s.head.queue ≠ []) : endRow s = beginRow { s with head := { s.head with row := none } } := by
  obtain ⟨e, rest, hq⟩ := List.exists_cons_of_ne_nil h
  simp only [endRow, hq]

/-! ### Step starts (O15) -/

/-- R35: the step headroom test, as the judgement of STARVED. -/
theorem not_stepHeadroom (s : State) : (!stepHeadroom s) = decide (iMax s < if carrierOn s.conn then 410 else 350) := by
  simp [stepHeadroom, ← decide_not]

theorem stepStart_waits (ofFeed : Bool) (h : s.supply.battery.valid = false) :
    stepStart ofFeed s = { s with head := { s.head with waiting := true } } := by
  simp [stepStart, h, waitStart]

theorem stepStart_steps (ofFeed : Bool) (h : s.supply.battery.valid = true) (hp : s.head.paper = true)
    (hs : (!stepHeadroom s) = false) :
    stepStart ofFeed s = beginStep ofFeed { s with supply := { s.supply with starved := false } } := by
  simp only [stepStart, h, stepRefusal, hp, hs, if_true]
  rfl

theorem stepStart_pauses (ofFeed : Bool) (h : s.supply.battery.valid = true)
    (hwhy : s.head.paper = false ∨ (!stepHeadroom s) = true) :
    stepStart ofFeed s = enterPaused (stepRefusal s) (setLatchIf (!s.head.paper) .paperOut (judgeStarved (!stepHeadroom s) s)) := by
  have hany : (stepRefusal s).any = true := by
    rcases hwhy with hp | hs
    · simp [stepRefusal, Reasons.any, hp]
    · simp [stepRefusal, Reasons.any, hs]
  simp only [stepStart, h, if_true, hany]
  rfl

/-- R7: the two outputs of each motor position. -/
theorem motorOutputs_eq (s : State) : motorOutputs s = (if s.head.motor = .released then (false, false, false, false)
    else match s.head.position with
      | 0 => (true, true, false, false)
      | 1 => (false, true, true, false)
      | 2 => (false, false, true, true)
      | 3 => (true, false, false, true)
      | _ => (false, false, false, false)) := by
  unfold motorOutputs
  split
  · rfl
  · split <;> simp_all

/-- Settles O15: the outcomes of a step start, by its battery reading, its paper and its headroom. -/
theorem stepStartIsJudged : Obligations.StepStartIsJudged := by
  intro s ofFeed
  dsimp only
  rw [← not_stepHeadroom s]
  refine ⟨stepStart_waits ofFeed, fun hv hp hs => stepStart_steps ofFeed hv hp hs, fun hv hwhy => ?_, motorOutputs_eq s⟩
  rw [stepStart_pauses ofFeed hv hwhy]
  cases hp : s.head.paper <;>
    simp [enterPaused, stepRefusal, setLatchIf, judgeStarved, hp, Config.holdTime]

/-! ### Phase starts (O16) -/

theorem phaseStart_waits (cfg : HeadConfig) (r : BurnRow) (h : (s.supply.battery.valid && s.supply.temp.valid) = false) :
    phaseStart cfg r s = { s with head := { s.head with waiting := true } } := by
  simp [phaseStart, h, waitStart]

theorem phaseStart_judged (cfg : HeadConfig) (r : BurnRow) (h : (s.supply.battery.valid && s.supply.temp.valid) = true) :
    phaseStart cfg r s =
      (if (phaseRefusal (figures cfg (boostAtStart r s) s).limit s).any then
        enterPaused (phaseRefusal (figures cfg (boostAtStart r s) s).limit s)
      else loadPhase r (boostAtStart r s) (figures cfg (boostAtStart r s) s))
        (judgeStarved (limitStarved (figures cfg (boostAtStart r s) s).limit)
          (recordFigures (figures cfg (boostAtStart r s) s) s)) := by
  simp only [phaseStart, h, if_true]
  split <;> rfl

/-- R38: the class that is packed, said by the cold dots left. -/
theorem inCold_ite {α : Type} (r : BurnRow) (hot : List Nat) (a b : α) :
    (if r.inCold hot then a else b) = if (r.coldLeft hot).isEmpty then b else a := by
  unfold BurnRow.inCold
  cases (r.coldLeft hot).isEmpty <;> rfl

/-- Settles O16: the outcomes of a phase start, by its readings and its refusals. -/
theorem phaseStartIsJudged : Obligations.PhaseStartIsJudged := by
  intro s cfg r rested boost f hot supply
  have hfirst : decide (r.hot = none) = r.hot.isNone := by cases r.hot <;> rfl
  have hrested : rested = (r.hot.isNone && restedLong s) := congrArg (· && restedLong s) hfirst
  have hboost : boost = boostAtStart r s := by rw [boostAtStart, ← hrested]
  have hf : f = figures cfg (boostAtStart r s) s := hboost ▸ rfl
  have hhot : hot = r.hot.getD (splitHot r.marked s) := by
    cases hlast : s.head.lastPulse with
    | none => simp only [hot, splitHot, pulsedLately, hlast, Bool.false_eq_true, if_false]
    | some t => simp only [hot, splitHot, pulsedLately, hlast, Config.hotGap, decide_eq_true_eq]
  have hsupply : supply = { s.supply with
      lastLimit := f.limit, lastCold := f.cold, lastHot := f.hot, starved := decide (f.limit < 4) } := rfl
  clear_value supply hot f boost rested
  subst hsupply hhot hf hboost
  refine ⟨phaseStart_waits cfg r, fun hv hhot hlow hn => ?_, fun hv hwhy => ?_⟩
  · have hgo : ¬ (phaseRefusal (figures cfg (boostAtStart r s) s).limit s).any = true := by
      rw [phaseRefusal_any]
      simp [hhot, hlow]
      omega
    rw [phaseStart_judged cfg r hv, if_neg hgo, ← inCold_ite]
    have hns : limitStarved (figures cfg (boostAtStart r s) s).limit = false := by simp [limitStarved]; omega
    have hnd : decide ((figures cfg (boostAtStart r s) s).limit < 4) = false := by simpa [limitStarved] using hns
    rw [hns, hnd]
    rfl
  · rw [phaseStart_judged cfg r hv, if_pos ((phaseRefusal_any _ s).2 hwhy)]
    simp [enterPaused, phaseRefusal, limitStarved, judgeStarved, recordFigures, Config.holdTime]

/-! ### Timers and row cycles (O14) -/

/-- Settles O14: each clause is a case of the start of the row in hand. -/
theorem motorAndRowCycles : Obligations.MotorAndRowCycles := by
  refine ⟨fun s due hreset => ⟨fun hdue => ?_, fun hdue => holdTimerExpiry_due hreset hdue⟩, fun s e rest hq => ?_⟩
  · rw [energizingTimerExpiry_due hreset hdue, endEnergizing]
    refine ⟨fun c left hrow => settled_congr (proceed_feed hrow), fun r hrow hn => settled_congr (proceed_step hrow hn),
      fun r hrow hn hfirst hs => settled_congr (proceed_settling hrow hn hfirst hs),
      fun r cfg hrow hn hready hc => settled_congr (proceed_phase hrow hn hready hc)⟩
  · refine ⟨fun hm => beginRow_released hq hm, fun hm n he => ?_, fun hm dots he => ?_⟩
    · subst he
      exact (beginRow_held hq hm).trans (proceed_feed rfl)
    · subst he
      exact ⟨fun hs => (beginRow_held hq hm).trans (proceed_settling rfl rfl rfl hs),
        fun cfg hs hc => (beginRow_held hq hm).trans (proceed_phase rfl rfl (.inr hs) hc)⟩

end Sys2Proof.Steps
end

section
/-!
O13 and O18: SET HEAD and SET DENSITY, the settle period and the paper sensor (R1, R2, R17, R20, R41).
-/

namespace Sys2Proof.Steps

open Sys2Proof.Machine Sys2Proof.Safety Sys2Proof.Laws

variable {s : State}

/-! ### Fields of the two commands -/

theorem classOf_eq (b : Byte) : classOf b = [HeadClass.a, .b, .c, .d][b.toNat]? := by
  unfold classOf
  split_ifs with ha hb hc hd
  · subst ha; rfl
  · subst hb; rfl
  · subst hc; rfl
  · subst hd; rfl
  · have : [HeadClass.a, .b, .c, .d].length ≤ b.toNat := by simp only [List.length_cons, List.length_nil]; bv_omega
    exact (List.getElem?_eq_none this).symm

theorem classOf_above {b : Byte} (h : 3 < b.toNat) : classOf b = none :=
  (classOf_eq b).trans (List.getElem?_eq_none h)

theorem switchOf_above {b : Byte} (h : 1 < b.toNat) : switchOf b = none := by
  unfold switchOf
  split_ifs with h0 h1
  · subst h0; simp at h
  · subst h1; simp at h
  · rfl

theorem switchOf_le_one {b : Byte} (h : b.toNat ≤ 1) : switchOf b = some (decide (b = 1)) := by
  have : b = 0 ∨ b = 1 := by bv_omega
  rcases this with rfl | rfl <;> rfl

theorem doneOr_eq (kind : Byte) {b : Bool} {P : Prop} [Decidable P] (h : b = true ↔ P) : doneOr kind b = doneReply kind P := by
  simp only [doneOr, doneReply, h]

/-- R188: a number is told as clamped exactly when it lies outside its range. -/
theorem clampNat_moves {low high : Nat} (h : low ≤ high) (n : Nat) : clampNat low high n ≠ n ↔ n < low ∨ high < n := by
  unfold clampNat
  omega

theorem readHead_eq {cls : Byte} {named : HeadClass} (h : classOf cls = some named) (w0 w1 n : Byte) :
    readHead [cls, w0, w1, n] = .ok (
      { cls := named, maxWidth := clampNat 200 2500 (wordOf w0 w1), maxDots := clampNat 8 80 n.toNat },
      clampNat 200 2500 (wordOf w0 w1) != wordOf w0 w1 || clampNat 8 80 n.toNat != n.toNat) := by
  simp only [readHead, h]

theorem readHead_clamps (w n : Nat) : (clampNat 200 2500 w != w || clampNat 8 80 n != n) = true
    ↔ w < 200 ∨ 2500 < w ∨ n < 8 ∨ 80 < n := by
  rw [Bool.or_eq_true, bne_iff_ne, bne_iff_ne, clampNat_moves (by decide), clampNat_moves (by decide), or_assoc]

theorem actSetHead_locked (p : List Byte) (hp : p.length = 4) (h : s.head.config ≠ none) :
    actSetHead p s = (s, .reject 0x08 .locked) := by
  simp [actSetHead, judgeHead, hp, Option.isSome_iff_ne_none, h]

theorem actSetHead_range {cls : Byte} (w0 w1 n : Byte) (h : s.head.config = none) (hc : classOf cls = none) :
    actSetHead [cls, w0, w1, n] s = (s, .reject 0x08 .range) := by
  simp [actSetHead, judgeHead, h, readHead, hc]

theorem actSetHead_accepted {cls w0 w1 n : Byte} {x : HeadConfig × Bool} (h : s.head.config = none)
    (hr : readHead [cls, w0, w1, n] = .ok x) :
    actSetHead [cls, w0, w1, n] s = (configureHead x.1 s, doneOr 0x08 x.2) := by
  simp [actSetHead, judgeHead, h, hr]

/-- R41: H rounded down to a multiple of 5. -/
theorem readDensity_eq (d h : Byte) {b : Byte} (hb : b.toNat ≤ 1) : readDensity [d, h, b] = .ok (
    { density := max (-3) (min 3 d.toInt), hotRatio := max 50 (min 100 (h.toNat - h.toNat % 5)), boost := decide (b = 1) },
    decide (d.toInt < -3 ∨ 3 < d.toInt ∨ h.toNat < 50 ∨ 100 < h.toNat ∨ h.toNat % 5 ≠ 0)) := by
  have hround : h.toNat / 5 * 5 = h.toNat - h.toNat % 5 := by omega
  have hmoved : (clampInt (-3) 3 d.toInt != d.toInt || clampNat 50 100 (h.toNat / 5 * 5) != h.toNat)
      = decide (d.toInt < -3 ∨ 3 < d.toInt ∨ h.toNat < 50 ∨ 100 < h.toNat ∨ h.toNat % 5 ≠ 0) := by
    rw [Bool.eq_iff_iff, Bool.or_eq_true, bne_iff_ne, bne_iff_ne, decide_eq_true_iff]
    unfold clampInt clampNat
    omega
  simp only [readDensity, switchOf_le_one hb, hmoved]
  rw [clampInt, clampNat, hround]

/-! ### SET HEAD and SET DENSITY -/

theorem configureHead_nil (cfg : HeadConfig) (h : s.head.queue = []) :
    configureHead cfg s = { s with head := { s.head with config := some cfg, state := .idle } } := beginRow_nil h

theorem configureHead_released (cfg : HeadConfig) {e : RowEntry} {rest : List RowEntry} (h : s.head.queue = e :: rest)
    (hm : s.head.motor = .released) : configureHead cfg s = { s with head := { s.head with
      config := some cfg, state := .energizing, queue := rest, row := some e.record, reasons := .none
      waiting := false, hold := none, motor := .energizing, energize := some (s.now + 20000) } } :=
  beginRow_released h hm

theorem setHead_refused {dt : Micros} {p : List Byte} {why : Reason} (h : CanTake 0x08 p s)
    (hact : actSetHead p (closeFrame (after dt s)) = (closeFrame (after dt s), .reject 0x08 why)) :
    exec (.setHead dt p) s = .next (settleRow (answered dt (.reject 0x08 why) s)) := by
  rw [setHead_taken h, hact]
  rfl

theorem setHead_accepted {dt : Micros} {cls w0 w1 n : Byte} {named : HeadClass} (h : CanTake 0x08 [cls, w0, w1, n] s)
    (hnone : s.head.config = none) (hcls : classOf cls = some named) :
    exec (.setHead dt [cls, w0, w1, n]) s = .next (settleRow
      (reply (doneReply 0x08 (wordOf w0 w1 < 200 ∨ 2500 < wordOf w0 w1 ∨ n.toNat < 8 ∨ 80 < n.toNat))
        (configureHead { cls := named, maxWidth := clampNat 200 2500 (wordOf w0 w1), maxDots := clampNat 8 80 n.toNat }
          (closeFrame (after dt s))))) := by
  have hact := actSetHead_accepted (s := closeFrame (after dt s)) hnone (readHead_eq hcls w0 w1 n)
  rw [setHead_taken h, hact, doneOr_eq 0x08 (readHead_clamps (wordOf w0 w1) n.toNat)]

/-- Settles O13: by what the two judgements read, and by the first entry that waits. -/
theorem headCommands : Obligations.HeadCommands := by
  refine ⟨fun s dt cls w0 w1 n h => ⟨fun hc => ?_, fun hnone hcls => ?_, ?_⟩, fun s dt d h b ht => ⟨fun hb => ?_, fun hb => ?_⟩⟩
  · exact setHead_refused h (actSetHead_locked _ rfl hc)
  · exact setHead_refused h (actSetHead_range _ _ _ hnone (classOf_above hcls))
  · rintro named w hnone hcls rfl r cfg
    have hacc := setHead_accepted (dt := dt) h hnone ((classOf_eq cls).trans hcls)
    refine ⟨fun hq => hacc.trans (settled_congr ?_), fun e rest hq hm => hacc.trans (settled_congr ?_)⟩
    · exact congrArg (reply r) (configureHead_nil (s := closeFrame (after dt s)) cfg hq)
    · exact congrArg (reply r) (configureHead_released (s := closeFrame (after dt s)) cfg hq hm)
  · rw [setDensity_taken ht, actSetDensity]
    simp only [readDensity, switchOf_above hb, answer_error]
    rfl
  · rw [setDensity_taken ht, actSetDensity, readDensity_eq d h hb, answer_ok]
    exact settled_congr (congrArg (reply · _) (doneOr_eq 0x09 decide_eq_true_iff))

/-! ### The settle period and the paper sensor (O18) -/

theorem endSettle_idle (h : s.head.state ≠ .settling) : endSettle s = { s with head := { s.head with settle := none } } := if_neg h

theorem endSettle_settling (h : s.head.state = .settling) :
    endSettle s = proceed { s with head := { s.head with settle := none } } := if_pos h

theorem removeReasons_elsewhere (gone : Reasons) (h : s.head.state ≠ .paused) : removeReasons gone s = s := if_neg h

/-- Settles O18: the settle period's end is a case of the start of the row in hand. -/
theorem settlingAndPaper : Obligations.SettlingAndPaper := by
  intro s dt due hreset
  refine ⟨fun hdue => ?_, paperSensorChange_running hreset, fun hdue hstate => ?_⟩
  · rw [settlePeriodEnd_due hreset hdue]
    refine ⟨fun hstate => settled_congr (endSettle_idle hstate), fun r cfg hstate hrow hn hc => settled_congr ?_⟩
    exact (endSettle_settling (s := atMoment due s) hstate).trans (proceed_phase hrow hn (.inr rfl) hc)
  · rw [paperPresentTimerExpiry_due hreset hdue, endPaperTimer]
    exact settled_congr (removeReasons_elsewhere _ hstate)

end Sys2Proof.Steps
end

section
/-!
O31: the four cases of a line advance, and entries that join the row queue (R3, R61 to R63, R69).
-/

namespace Sys2Proof.Steps

open Sys2Proof.Machine Sys2Proof.Safety Sys2Proof.Laws

variable {s : State}

/-! ### Line advance -/

theorem absorbs_iff (f : Formatter) : f.absorbs = true ↔ f.cursor.continuation = true ∧ f.cursor.ink = false := by
  simp [Formatter.absorbs]

theorem lineAdvance_absorbed (h : s.fmt.absorbs = true) : lineAdvance s = { s with fmt := { s.fmt with
    window := s.fmt.window.set s.fmt.cursorLine { s.fmt.cursor with continuation := false } } } := if_pos h

theorem lineAdvance_newer (ha : ¬ s.fmt.absorbs = true) (h : s.fmt.cursorLine + 1 < s.fmt.window.length) :
    lineAdvance s = { s with fmt := { s.fmt with cursorLine := s.fmt.cursorLine + 1 } } := by
  have hn : s.fmt.atNewest = false := decide_eq_false (Nat.not_le.2 h)
  simp only [lineAdvance, if_neg ha, hn, Bool.not_false, if_true]

theorem lineAdvance_opens (ha : ¬ s.fmt.absorbs = true) (h : s.fmt.window.length = s.fmt.cursorLine + 1)
    (hroom : s.fmt.window.length < 4) :
    lineAdvance s = { s with fmt := { s.fmt with
      window := s.fmt.window ++ [Line.fresh], cursorLine := s.fmt.cursorLine + 1 } } := by
  have hn : s.fmt.atNewest = true := decide_eq_true h.le
  have hcap : s.fmt.cursorLine + 1 < Config.windowCap := h ▸ hroom
  simp only [lineAdvance, if_neg ha, hn, Bool.not_true, Bool.false_eq_true, if_false, if_pos hcap, Formatter.openLine, h]

theorem commitOldest_cons {old : Line} {rest : List Line} (h : s.fmt.window = old :: rest) :
    commitOldest s = { appendEntries (s.fmt.entriesOf old) s with fmt := s.fmt.dropOldest old } := by
  simp only [commitOldest, h, appendEntries_fmt]

/-- R69: the formatter when the window was full, its oldest line is committed, and a fresh line is opened. -/
theorem openLine_dropOldest {f : Formatter} {old : Line} {rest : List Line} (h : f.window = old :: rest)
    (hfull : f.window.length = 4) (hlast : f.cursorLine = 3) :
    (f.dropOldest old).openLine = { f with
      window := rest ++ [Line.fresh]
      formCounter := if old.continuation then f.formCounter
        else if f.formLength = 0 then min 255 (f.formCounter + 1)
        else (f.formCounter + 1) % f.formLength } := by
  have hrest : rest.length = 3 := by simpa [h] using hfull
  have hne : rest ≠ [] := List.ne_nil_of_length_pos (by omega)
  simp only [Formatter.openLine, Formatter.dropOldest, Formatter.nextCounter, h, List.tail_cons, if_neg hne, hrest, hlast]

theorem lineAdvance_commits (ha : ¬ s.fmt.absorbs = true) {old : Line} {rest : List Line} (h : s.fmt.window = old :: rest)
    (hfull : s.fmt.window.length = 4) (hlast : s.fmt.cursorLine = 3) :
    lineAdvance s = { appendEntries (s.fmt.entriesOf old) s with fmt := (s.fmt.dropOldest old).openLine } := by
  have hn : s.fmt.atNewest = true := decide_eq_true (by omega)
  have hcap : ¬ s.fmt.window.length < Config.windowCap := by rw [hfull]; decide
  simp only [lineAdvance, if_neg ha, hn, Bool.not_true, Bool.false_eq_true, if_false, if_neg hcap, commitOldest_cons h]

/-! ### Entries that join the row queue -/

theorem appendEntries_busy (es : List RowEntry) (h : s.head.state ≠ .idle) :
    appendEntries es s = { s with head := { s.head with queue := s.head.queue ++ es } } := if_neg fun hi => h hi.1

theorem appendEntries_idle (es : List RowEntry) (h : s.head.state = .idle) (hw : s.head.waiting = false) :
    appendEntries es s = beginRow { s with head := { s.head with queue := s.head.queue ++ es } } := if_pos ⟨h, hw⟩

/-- Settles O31: the line advance case by case, the commit through `appendEntries_fmt`, and an IDLE driver's row cycle through
`beginRow`. -/
theorem lineAdvanceCases : Obligations.LineAdvanceCases := by
  refine ⟨fun s => ⟨fun hc hi => ?_, fun hno => ?_, rfl, rfl⟩, fun s es => ⟨appendEntries_busy es, appendEntries_idle es, ?_, ?_⟩⟩
  · exact lineAdvance_absorbed ((absorbs_iff _).2 ⟨hc, hi⟩)
  · have ha : ¬ s.fmt.absorbs = true := fun h => hno ((absorbs_iff _).1 h)
    refine ⟨lineAdvance_newer ha, lineAdvance_opens ha, fun old rest hw hfull hlast => ?_⟩
    rw [lineAdvance_commits ha hw hfull hlast, openLine_dropOldest hw hfull hlast]
    rfl
  · intro hi hw hm e rest hq h
    have began := (appendEntries_idle es hi hw).trans (beginRow_held hq hm)
    refine ⟨fun n he => ?_, fun dots he => ⟨fun hs => ?_, fun cfg hs hc => ?_⟩⟩ <;> subst he
    · exact began.trans (proceed_feed rfl)
    · exact began.trans (proceed_settling rfl rfl rfl hs)
    · exact began.trans (proceed_phase rfl rfl (.inr hs) hc)
  · intro hi hw hm e rest hq
    exact (appendEntries_idle es hi hw).trans (beginRow_released hq hm)

end Sys2Proof.Steps
end

section
/-!
O17: the load of a phase, the ends of pulses and steps (R9, R12, R13, R15, R17).
-/

namespace Sys2Proof.Steps

open Sys2Proof.Machine Sys2Proof.Safety Sys2Proof.Laws

variable {s : State}

/-! ### The load and the strobe -/

/-- R12: strobe line `n` drives the dots 40n to 40n + 39. -/
theorem strobe_iff (s : State) (n : Nat) : strobe s n = true
    ↔ ∃ p, s.head.phase = some p ∧ p.loading = false ∧ ∃ d ∈ p.dots, 40 * n ≤ d ∧ d ≤ 40 * n + 39 := by
  have block (d : Nat) : d / 40 = n ↔ 40 * n ≤ d ∧ d ≤ 40 * n + 39 := by omega
  unfold strobe
  split
  · next p hp => simp [hp, block]
  · next hp => simp [hp]

theorem shiftedBits_length (p : Phase) : (shiftedBits p).length = 320 := by simp [shiftedBits]

theorem shiftedBits_reverse (p : Phase) : (shiftedBits p).reverse = (List.range 320).map (dotBit p) := by
  simp only [shiftedBits, List.map_reverse, List.reverse_reverse]

theorem shiftedBits_getElem? (p : Phase) {n : Nat} (h : n < 320) : (shiftedBits p)[n]? = some (decide (319 - n ∈ p.dots)) := by
  have hr : n < (List.range 320).reverse.length := by simpa using h
  rw [shiftedBits, List.getElem?_map, List.getElem?_eq_getElem hr]
  simp [dotBit]

theorem loadPulses_clock (p : Phase) {n : Nat} (h : n < 320) :
    (loadPulses p)[n]? = some (.clock (decide (319 - n ∈ p.dots))) := by
  have hl : n < ((shiftedBits p).map HeadPulse.clock).length := by rw [List.length_map, shiftedBits_length]; exact h
  rw [loadPulses, List.getElem?_append_left hl, List.getElem?_map, shiftedBits_getElem? p h]
  rfl

theorem loadPulses_latch (p : Phase) : (loadPulses p)[320]? = some .latch := by
  have hl : ((shiftedBits p).map HeadPulse.clock).length = 320 := by rw [List.length_map, shiftedBits_length]
  rw [loadPulses, List.getElem?_append_right hl.le, hl]
  rfl

theorem loadPulses_length (p : Phase) : (loadPulses p).length = 321 := by
  rw [loadPulses, List.length_append, List.length_map, shiftedBits_length]
  rfl

/-- The clocked bits stand in the register newest first, as far as it reaches. -/
theorem foldl_clock_getElem? (bits reg lat : List Bool) {n : Nat} (hn : n < bits.length) (h320 : n < 320) :
    ((bits.map HeadPulse.clock).foldl headAfter (reg, lat)).1[n]? = bits.reverse[n]? := by
  induction bits using List.reverseRecOn generalizing n with
  | nil => exact absurd hn (Nat.not_lt_zero n)
  | append_singleton bits b ih =>
    rw [List.map_append, List.foldl_append, List.reverse_append]
    cases n with
    | zero => rfl
    | succ n =>
      have hn' : n < bits.length := by simpa using hn
      have h319 : n < 319 := by omega
      show (List.take 319 _)[n]? = _
      rw [List.getElem?_take_of_lt h319, ih hn' (by omega)]
      rfl

/-- R12: after the load the head has latched the dots of the phase. -/
theorem latched_getElem? (p : Phase) (reg lat : List Bool) {n : Nat} (h : n < 320) :
    ((loadPulses p).foldl headAfter (reg, lat)).2[n]? = some (decide (n ∈ p.dots)) := by
  have hn : n < (shiftedBits p).length := (shiftedBits_length p).symm ▸ h
  rw [loadPulses, List.foldl_append]
  show ((List.map _ _).foldl headAfter (reg, lat)).1[n]? = _
  rw [foldl_clock_getElem? _ _ _ hn h, shiftedBits_reverse, List.getElem?_map, List.getElem?_range h]
  simp [dotBit]

/-! ### The ends of loading, of a pulse and of a step -/

theorem forPhase_some {f : Phase → State → State} {p : Phase} (h : s.head.phase = some p) : forPhase f s = f p s := by
  simp only [forPhase, h]

theorem unburned_eq_nil {r : BurnRow} : r.unburned = [] ↔ ∀ d ∈ r.marked, d ∈ r.burned := by
  simp [BurnRow.unburned, List.filter_eq_nil_iff]

theorem endPulse_goes_on {p : Phase} {r : BurnRow} {cfg : HeadConfig} (hrow : s.head.row = some (.burn r))
    (hc : s.head.config = some cfg) (hleft : ∃ d ∈ r.marked, d ∉ r.burned ++ p.dots) :
    endPulse p s = phaseStart cfg (r.burnedBy p.dots) { s with head := { s.head with
      phase := none, lastPulse := some s.now, phasesBurned := countUp s.head.phasesBurned
      row := some (.burn (r.burnedBy p.dots)) } } := by
  have hne : ¬ (r.burnedBy p.dots).unburned = [] := by
    rw [unburned_eq_nil]
    obtain ⟨d, hd, hnot⟩ := hleft
    exact fun hall => hnot (hall d hd)
  simp only [endPulse, hrow, hc, if_neg hne]

theorem endPulse_completes {p : Phase} {r : BurnRow} (hrow : s.head.row = some (.burn r))
    (hall : ∀ d ∈ r.marked, d ∈ r.burned ++ p.dots) :
    endPulse p s = completeRow (r.burnedBy p.dots) { s with head := { s.head with
      phase := none, lastPulse := some s.now, phasesBurned := countUp s.head.phasesBurned
      row := some (.burn (r.burnedBy p.dots)) } } := by
  have he : (r.burnedBy p.dots).unburned = [] := unburned_eq_nil.2 hall
  simp only [endPulse, hrow, if_pos he]

theorem endStep_feed {c left : Nat} (hrow : s.head.row = some (.feed c left)) (h : 2 ≤ left) :
    endStep s = stepStart true { s with head := { s.head with
      step := none, motor := .held, row := some (.feed c (left - 1)) } } := by
  simp only [endStep, hrow, if_neg (Nat.not_le.2 h)]

/-- The step that ends a row cycle, with the settle period it leaves. -/
theorem endStep_last {settle : Timer} (h : ((∃ r, s.head.row = some (.burn r)) ∧ settle = s.head.settle)
      ∨ (∃ c left, s.head.row = some (.feed c left) ∧ left ≤ 1
          ∧ settle = if 2 ≤ c then some (s.now + 10000) else s.head.settle)) :
    endStep s = endRow { s with head := { s.head with step := none, motor := .held, settle := settle } } := by
  rcases h with ⟨⟨r, hrow⟩, rfl⟩ | ⟨c, left, hrow, hlast, rfl⟩
  · simp only [endStep, hrow]
  · simp only [endStep, hrow, if_pos hlast, settleAfter, Config.settleTime]

/-- Settles O17: the load by induction on the clocked bits, each end by the case of its row. -/
theorem phasesAndStepsEnd : Obligations.PhasesAndStepsEnd := by
  refine ⟨fun s n => ⟨strobe_iff s n, fun p => ⟨shiftedBits_length p, fun h => ⟨shiftedBits_getElem? p h, loadPulses_clock p h⟩,
    loadPulses_latch p, loadPulses_length p, fun h => ?_, fun h => ?_, fun reg lat => latched_getElem? p reg lat⟩⟩,
    fun s p hreset hp => ⟨fun hload => ?_, fun r cfg hload hrow hc => ?_⟩, fun s due hreset hdue => ?_⟩
  · simp only [headPulses, h]
  · simp only [headPulses, h]
  · have hdue : loadDue s = some p.due := by simp [loadDue, hp, hload]
    rw [loadingEnd_due hreset hdue]
    exact settled_congr (forPhase_some (s := atMoment p.due s) hp)
  · have hdue : pulseDue s = some p.due := by simp [pulseDue, hp, hload]
    have hfor := forPhase_some (s := atMoment p.due s) (f := endPulse) hp
    rw [pulseEnd_due hreset hdue, hfor]
    exact ⟨fun hleft => settled_congr (endPulse_goes_on hrow hc hleft), fun hall => settled_congr (endPulse_completes hrow hall)⟩
  · rw [stepEnd_due hreset hdue]
    refine ⟨fun c left hrow h => settled_congr (endStep_feed hrow h), fun settle h => ?_⟩
    have hlast := endStep_last (s := atMoment due s) h
    exact ⟨fun hq => settled_congr (hlast.trans (endRow_nil hq)), fun hq => settled_congr (hlast.trans (endRow_queue hq))⟩

end Sys2Proof.Steps
end

section
/-!
What a reading does, how a start is made again and what removing reasons does; with that O19 (R19, R21, R24, R28, R29).
-/

namespace Sys2Proof.Steps

open Sys2Proof.Machine Sys2Proof.Safety Sys2Proof.Laws

variable {s t u v : State} {due : Micros} {c : Byte}

/-! ### The reading itself -/

/-- R29: BATTERY LOW turns at the second reading in a row that qualifies. -/
theorem lowAfter_eq (low : Bool) (count v : Nat) :
    let counts := if low then decide (5800 ≤ v) else decide (v < 5400)
    let turns := counts && decide (1 ≤ count)
    lowAfter low count v = (low != turns, if counts && !turns then 1 else 0) := by
  intro counts turns
  have hcount : 2 ≤ count + 1 ↔ 1 ≤ count := by omega
  have hread : lowAfter low count v
      = if counts then if 2 ≤ count + 1 then (!low, 0) else (low, count + 1) else (low, 0) := rfl
  rw [hread]
  simp only [turns, hcount]
  clear_value counts
  cases counts with
  | false => simp
  | true =>
    by_cases h : 1 ≤ count
    · simp [h]
    · have : count = 0 := by omega
      subst this
      simp

/-- R28: HOT with its hysteresis. -/
theorem hotAfter_eq (hot : Bool) (t : Int) : hotAfter hot t = (decide (65 ≤ t) || (hot && decide (55 < t))) := by
  cases hot with
  | false => simp [hotAfter]
  | true =>
    rw [hotAfter, if_pos rfl, Bool.eq_iff_iff]
    simp only [Bool.not_eq_true', decide_eq_false_iff_not, Bool.or_eq_true, Bool.true_and, decide_eq_true_eq]
    omega

theorem millivolts_eq (c : Byte) : millivolts c = 40 * c.toNat := Nat.mul_comm _ _

/-- R191: BATTERY LOW becomes set when it turns and was clear. -/
theorem latch_becomes_low (turns low : Bool) : ((low != turns && !low) = true) = (turns = true ∧ low = false) := by
  cases turns <;> cases low <;> simp

/-- R191: HOT becomes set at 65 °C or more when it was clear. -/
theorem latch_becomes_hot (t : Int) (hot : Bool) :
    (((decide (65 ≤ t) || (hot && decide (55 < t))) && !hot) = true) = (65 ≤ t ∧ hot = false) := by
  cases hot <;> simp

theorem endConversion_battery (h : s.supply.channel = .battery) :
    endConversion c (atMoment due s) = retryStart (afterBattery s.supply.batteryLow (readingTaken due c s)) := by
  have hread : readBattery c { atMoment due s with supply := { s.supply with
      channel := .temp, conversion := some (max s.now due + 1000) } } = readingTaken due c s := by
    simp only [readBattery, readingTaken, h, millivolts_eq, lowAfter_eq, latch_becomes_low]
    rfl
  rw [← hread]
  simp only [endConversion, atMoment_supply, h]
  rfl

theorem endConversion_temp (h : s.supply.channel = .temp) :
    endConversion c (atMoment due s) = retryStart (afterTemp s.supply.hot (readingTaken due c s)) := by
  have hread : readTemp c { atMoment due s with supply := { s.supply with
      channel := .level, conversion := some (max s.now due + 1000) } } = readingTaken due c s := by
    simp only [readTemp, readingTaken, h, hotAfter_eq, latch_becomes_hot]
    rfl
  rw [← hread]
  simp only [endConversion, atMoment_supply, h]
  rfl

theorem endConversion_level (h : s.supply.channel = .level) : endConversion c (atMoment due s) = readingTaken due c s := by
  simp only [endConversion, atMoment_supply, readingTaken, h]
  rfl

theorem readingTaken_head (due : Micros) (c : Byte) (s : State) : (readingTaken due c s).head = s.head := by
  unfold readingTaken
  dsimp only
  split <;> rfl

/-! ### Starts made again -/

theorem proceed_of_startedAgain (h : startedAgain s = some t) : proceed s = t := by
  unfold startedAgain at h
  split at h
  · simp at h
  · next hrow => exact (proceed_feed hrow).trans (Option.some.inj h)
  · next r hrow =>
    split at h
    · next hn => exact (proceed_step hrow hn).trans (Option.some.inj h)
    · next hn =>
      split_ifs at h with hset
      · exact (proceed_settling hrow hn hset.1 hset.2).trans (Option.some.inj h)
      · obtain ⟨cfg, hc, rfl⟩ := Option.map_eq_some_iff.1 h
        exact proceed_phase hrow hn (by tauto) hc

/-- The start made again stops the hold timer, so it does not matter whether it ran. -/
theorem startedAgain_hold (x : Timer) (s : State) :
    startedAgain { s with head := { s.head with hold := x } } = startedAgain s := rfl

theorem retryStart_still (h : s.head.waiting = false) : retryStart s = s := by simp [retryStart, h]

theorem retryStart_waiting (h : s.head.waiting = true) : retryStart s = proceed s := by simp [retryStart, h]

theorem stepStart_waiting (b : Bool) (s : State) : (stepStart b s).head.waiting = !s.supply.battery.valid := by
  cases hv : s.supply.battery.valid with
  | false => rw [stepStart_waits b hv]; rfl
  | true =>
    simp only [stepStart, hv, if_true]
    split <;> rfl

theorem phaseStart_waiting (cfg : HeadConfig) (r : BurnRow) (s : State) :
    (phaseStart cfg r s).head.waiting = !(s.supply.battery.valid && s.supply.temp.valid) := by
  cases hv : s.supply.battery.valid && s.supply.temp.valid with
  | false => rw [phaseStart_waits cfg r hv]; rfl
  | true =>
    rw [phaseStart_judged cfg r hv]
    split <;> rfl

theorem proceed_phase_waits {r : BurnRow} {cfg : HeadConfig} (h : s.head.row = some (.burn r)) (hn : r.next = .phase)
    (hready : r.hot ≠ none ∨ s.head.settle = none) (hc : s.head.config = some cfg)
    (hv : (s.supply.battery.valid && s.supply.temp.valid) = false) : proceed s = { s with head := { s.head with
      state := .burning, reasons := .none, hold := none, waiting := true } } :=
  (proceed_phase h hn hready hc).trans (phaseStart_waits cfg r hv)

theorem proceed_step_waits {r : BurnRow} (h : s.head.row = some (.burn r)) (hn : r.next = .step)
    (hv : s.supply.battery.valid = false) : proceed s = { s with head := { s.head with hold := none, waiting := true } } :=
  (proceed_step h hn).trans (stepStart_waits false hv)

theorem proceed_feed_waits {n left : Nat} (h : s.head.row = some (.feed n left)) (hv : s.supply.battery.valid = false) :
    proceed s = { s with head := { s.head with hold := none, waiting := true } } :=
  (proceed_feed h).trans (stepStart_waits true hv)

theorem proceed_none (h : s.head.row = none) : proceed s = s := by simp only [proceed, h]

theorem proceed_unconfigured {r : BurnRow} (h : s.head.row = some (.burn r)) (hn : r.next = .phase)
    (hready : r.hot ≠ none ∨ s.head.settle = none) (hc : s.head.config = none) : proceed s = s := by
  have hno : (r.hot.isNone && s.head.settle.isSome) = false := by
    cases hh : r.hot <;> cases hs : s.head.settle <;> simp_all
  simp only [proceed, h, hn, hc, hno, Bool.false_eq_true, if_false]

/-- A start that has just been made and waits is the same when it is made again at once. -/
theorem proceed_proceed (hw : (proceed s).head.waiting = true) : proceed (proceed s) = proceed s := by
  rcases hrow : s.head.row with _ | r | ⟨n, left⟩
  · rw [proceed_none hrow, proceed_none hrow]
  · rcases hn : r.next with _ | _
    · by_cases hset : r.hot = none ∧ s.head.settle ≠ none
      · rw [proceed_settling hrow hn hset.1 hset.2] at hw
        exact absurd hw (by simp)
      · have hready : r.hot ≠ none ∨ s.head.settle = none := by tauto
        rcases hc : s.head.config with _ | cfg
        · rw [proceed_unconfigured hrow hn hready hc, proceed_unconfigured hrow hn hready hc]
        · have hv : (s.supply.battery.valid && s.supply.temp.valid) = false := by
            rw [proceed_phase hrow hn hready hc, phaseStart_waiting, Bool.not_eq_true'] at hw
            exact hw
          rw [proceed_phase_waits hrow hn hready hc hv]
          refine proceed_phase_waits (cfg := cfg) ?_ hn ?_ ?_ ?_
          · exact hrow
          · exact hready
          · exact hc
          · exact hv
    · have hv : s.supply.battery.valid = false := by
        rw [proceed_step hrow hn, stepStart_waiting, Bool.not_eq_true'] at hw
        exact hw
      rw [proceed_step_waits hrow hn hv]
      refine proceed_step_waits (r := r) ?_ hn ?_
      · exact hrow
      · exact hv
  · have hv : s.supply.battery.valid = false := by
      rw [proceed_feed hrow, stepStart_waiting, Bool.not_eq_true'] at hw
      exact hw
    rw [proceed_feed_waits hrow hv]
    refine proceed_feed_waits (n := n) (left := left) ?_ ?_
    · exact hrow
    · exact hv

theorem retryStart_proceed (s : State) : retryStart (proceed s) = proceed s := by
  cases hw : (proceed s).head.waiting with
  | false => exact retryStart_still hw
  | true => exact (retryStart_waiting hw).trans (proceed_proceed hw)

/-- R21: the driver resumes as the statements say it. -/
theorem resume_of_resumed (h : Resumed s t) : resume s = t ∧ retryStart (resume s) = t := by
  rcases h with ⟨hm, rfl⟩ | ⟨hm, hagain⟩
  · have e := approach_released (s := { s with head := { s.head with reasons := .none, hold := none } }) hm
    exact ⟨e, (congrArg retryStart e).trans (retryStart_still rfl)⟩
  · have e := approach_held (s := { s with head := { s.head with reasons := .none, hold := none } }) hm
    have hp := proceed_of_startedAgain ((startedAgain_hold none _).trans hagain)
    exact ⟨e.trans hp, (congrArg retryStart e).trans ((retryStart_proceed _).trans hp)⟩

/-! ### Reasons that go -/

/-- R19: the reasons that stand when `gone` are removed. -/
def reasonsLeft (r gone : Reasons) : Reasons :=
  { hot := r.hot && !gone.hot, starved := r.starved && !gone.starved
    batteryLow := r.batteryLow && !gone.batteryLow, noPaper := r.noPaper && !gone.noPaper }

theorem removeReasons_paused (gone : Reasons) (h : s.head.state = .paused) : removeReasons gone s =
    if s.head.reasons.any && !(reasonsLeft s.head.reasons gone).any then resume s
    else { s with head := { s.head with reasons := reasonsLeft s.head.reasons gone } } := if_pos h

theorem any_eq_false_iff (r : Reasons) : r.any = false ↔ r = .none := by
  rcases r with ⟨_ | _, _ | _, _ | _, _ | _⟩ <;> simp [Reasons.any, Reasons.none]

theorem removeReasons_last {gone : Reasons} (h : s.head.state = .paused) (hany : s.head.reasons ≠ .none)
    (hleft : reasonsLeft s.head.reasons gone = .none) : removeReasons gone s = resume s := by
  have h1 : s.head.reasons.any = true := by
    rw [← Bool.not_eq_false, any_eq_false_iff]
    exact hany
  have h2 := (any_eq_false_iff _).2 hleft
  rw [removeReasons_paused gone h, h1, h2]
  rfl

theorem removeReasons_stays {gone left : Reasons} (h : s.head.state = .paused)
    (hleft : reasonsLeft s.head.reasons gone = left) (hany : left.any = true) :
    removeReasons gone s = { s with head := { s.head with reasons := left } } := by
  rw [removeReasons_paused gone h, hleft, hany, Bool.not_true, Bool.and_false]
  rfl

theorem removeReasons_none (h : s.head.state = .paused) : removeReasons .none s = s := by
  have hleft : reasonsLeft s.head.reasons .none = s.head.reasons := by simp [reasonsLeft, Reasons.none]
  rw [removeReasons_paused _ h, hleft, Bool.and_not_self]
  rfl

theorem rejudge_elsewhere (h : s.head.state ≠ .paused) : rejudge s = s := by simp [rejudge, h]

/-! ### Readings outside a pause (O19) -/

theorem afterBattery_elsewhere (was : Bool) (h : s.head.state ≠ .paused) : afterBattery was s = s := by
  rw [afterBattery, rejudge_elsewhere h]
  exact removeReasons_elsewhere _ h

/-- R24: outside a pause a reading is taken, and a start that waited is made again at a battery or temperature reading. -/
theorem endConversion_elsewhere (due : Micros) (c : Byte) (h : s.head.state ≠ .paused) :
    endConversion c (atMoment due s)
      = if s.supply.channel = .level then readingTaken due c s else retryStart (readingTaken due c s) := by
  have hu : (readingTaken due c s).head.state ≠ .paused := by rwa [readingTaken_head]
  cases hch : s.supply.channel with
  | battery => rw [endConversion_battery hch, afterBattery_elsewhere _ hu]; rfl
  | temp => rw [endConversion_temp hch, afterTemp, removeReasons_elsewhere _ hu]; rfl
  | level => rw [endConversion_level hch]; rfl

/-- Settles O19: the reading is `readingTaken`, and the waiting start `startedAgain`. -/
theorem readingsAreJudged : Obligations.ReadingsAreJudged := by
  intro s due c hreset hdue hstate
  rw [converterReading_due c hreset hdue, endConversion_elsewhere due c hstate]
  refine ⟨fun hstill => settled_congr ?_, fun hw hch t hagain => settled_congr ?_⟩
  · by_cases hch : s.supply.channel = .level
    · exact if_pos hch
    · have hw : (readingTaken due c s).head.waiting = false := by
        rw [readingTaken_head]
        exact hstill.resolve_right hch
      exact (if_neg hch).trans (retryStart_still hw)
  · have hw' : (readingTaken due c s).head.waiting = true := by rwa [readingTaken_head]
    exact (if_neg hch).trans ((retryStart_waiting hw').trans (proceed_of_startedAgain hagain))

end Sys2Proof.Steps
end

section
/-!
O20: how a pause ends (R19 to R21, R31).
-/

namespace Sys2Proof.Steps

open Sys2Proof.Machine Sys2Proof.Safety Sys2Proof.Laws

variable {s t u v : State} {due : Micros} {c : Byte}

/-! ### STARVED judged afresh -/

theorem judgeStarved_of_set {starved : Bool} (h : starved = true → s.supply.starved = true) :
    judgeStarved starved s = { s with supply := { s.supply with starved := starved } } := by
  have hno : (starved && !s.supply.starved) = false := by
    cases starved with
    | false => rfl
    | true => rw [h rfl]; rfl
  simp only [judgeStarved, hno, Bool.false_eq_true, if_false]

theorem refusedStep_iff (s : State) : refusedStep s = true ↔ stepRefused s := by
  unfold refusedStep stepRefused
  split <;> simp_all

theorem rejudge_unstarved (h : s.head.reasons.starved = false) : rejudge s = s := by simp [rejudge, h]

theorem rejudge_step (hp : s.head.state = .paused) (hs : s.head.reasons.starved = true) (hstep : stepRefused s) :
    rejudge s = judgeStarved (!stepHeadroom s) s := by
  simp only [rejudge, hp, hs, (refusedStep_iff s).2 hstep, decide_true, Bool.and_self, if_true]

theorem rejudge_phase (hp : s.head.state = .paused) (hs : s.head.reasons.starved = true) {r : BurnRow} {cfg : HeadConfig}
    (hrow : s.head.row = some (.burn r)) (hn : r.next = .phase) (hc : s.head.config = some cfg) :
    rejudge s = judgeStarved (limitStarved (limitNow cfg s))
      { s with supply := { s.supply with lastLimit := limitNow cfg s } } := by
  have hstep : refusedStep s = false := by simp [refusedStep, hrow, hn]
  simp only [rejudge, hp, hs, hstep, hc, decide_true, Bool.and_self, if_true, Bool.false_eq_true, if_false]

/-- R31: the model's judgement is the statement's, where a start still starved leaves STARVED as it was. -/
theorem rejudge_of_judgedAfresh {starved : Bool} (hp : u.head.state = .paused) (hs : u.head.reasons.starved = true)
    (hj : JudgedAfresh u starved v) (hset : starved = true → u.supply.starved = true) : rejudge u = v := by
  rcases hj with ⟨hstep, rfl, rfl⟩ | ⟨r, cfg, hrow, hn, hc, rfl, rfl⟩
  · rw [rejudge_step hp hs hstep, not_stepHeadroom]
    exact judgeStarved_of_set hset
  · rw [rejudge_phase hp hs hrow hn hc]
    exact judgeStarved_of_set (s := { u with supply := { u.supply with lastLimit := limitNow cfg u } }) hset

/-- What a battery reading's judgement leaves of the state `u`: the driver as it was, BATTERY LOW as it was, and STARVED. -/
theorem rejudge_leaves {starved : Bool} (hp : u.head.state = .paused)
    (hv : (u.head.reasons.starved = false ∧ starved = false ∧ v = u)
      ∨ (u.head.reasons.starved = true ∧ JudgedAfresh u starved v))
    (hset : starved = true → u.supply.starved = true) :
    rejudge u = v ∧ v.head = u.head ∧ v.supply.batteryLow = u.supply.batteryLow
      ∧ (u.head.reasons.starved && !(u.head.reasons.starved && !v.supply.starved)) = starved := by
  rcases hv with ⟨hs, rfl, rfl⟩ | ⟨hs, hj⟩
  · exact ⟨rejudge_unstarved hs, rfl, rfl, by rw [hs]; rfl⟩
  · refine ⟨rejudge_of_judgedAfresh hp hs hj hset, ?_⟩
    rcases hj with ⟨-, -, rfl⟩ | ⟨r, cfg, -, -, -, -, rfl⟩ <;> simp [hs]

/-! ### What each reading removes -/

theorem reasonsLeft_onlyHot (r : Reasons) : reasonsLeft r onlyHot = { r with hot := false } := by
  simp [reasonsLeft, onlyHot]

theorem reasonsLeft_onlyNoPaper (r : Reasons) : reasonsLeft r onlyNoPaper = { r with noPaper := false } := by
  simp [reasonsLeft, onlyNoPaper]

theorem readingTaken_hot (h : s.supply.channel = .temp) : (readingTaken due c s).supply.hot
    = (decide ((65 : Int) ≤ 90 - (c.toNat * 100 / 255 : Nat))
      || (s.supply.hot && decide ((55 : Int) < 90 - (c.toNat * 100 / 255 : Nat)))) := by
  simp only [readingTaken, h]

theorem afterTemp_cool (h : s.supply.channel = .temp) (hhot : s.supply.hot = true)
    (hcool : 90 - (c.toNat * 100 / 255 : Nat) ≤ (55 : Int)) :
    afterTemp s.supply.hot (readingTaken due c s) = removeReasons onlyHot (readingTaken due c s) := by
  have hclear : (readingTaken due c s).supply.hot = false := by
    rw [readingTaken_hot h, hhot]
    simp only [Bool.true_and, Bool.or_eq_false_iff, decide_eq_false_iff_not]
    omega
  rw [afterTemp, hclear, hhot]
  rfl

theorem afterTemp_stands (h : s.supply.channel = .temp)
    (hstill : s.supply.hot = false ∨ (55 : Int) < 90 - (c.toNat * 100 / 255 : Nat)) :
    afterTemp s.supply.hot (readingTaken due c s) = removeReasons .none (readingTaken due c s) := by
  have hnone : (s.supply.hot && !(readingTaken due c s).supply.hot) = false := by
    rw [readingTaken_hot h]
    rcases hstill with hf | hd
    · rw [hf]; rfl
    · rw [decide_eq_true hd]; cases s.supply.hot <;> simp
  rw [afterTemp, hnone]
  rfl

/-- R29: BATTERY LOW clears at the second reading in a row of 5800 mV or more. -/
theorem readingTaken_batteryLow_clears (h : s.supply.channel = .battery) :
    (s.supply.batteryLow && !(readingTaken due c s).supply.batteryLow)
      = (s.supply.batteryLow && decide (1 ≤ s.supply.lowCount) && decide (145 ≤ c.toNat)) := by
  have hvolt : 5800 ≤ 40 * c.toNat ↔ 145 ≤ c.toNat := by omega
  simp only [readingTaken, h]
  cases s.supply.batteryLow with
  | false => rfl
  | true => simp [hvolt, Bool.and_comm]

theorem readingTaken_starved (due : Micros) (c : Byte) (s : State) :
    (readingTaken due c s).supply.starved = s.supply.starved := by
  unfold readingTaken
  dsimp only
  split <;> rfl

/-- R19, R31: a battery reading in a pause, with the reasons it leaves. -/
theorem afterBattery_paused {starved : Bool} (hch : s.supply.channel = .battery) (hp : s.head.state = .paused)
    (hv : (s.head.reasons.starved = false ∧ starved = false ∧ v = readingTaken due c s)
      ∨ (s.head.reasons.starved = true ∧ JudgedAfresh (readingTaken due c s) starved v))
    (hset : starved = true → s.supply.starved = true) :
    v.head = s.head ∧ ∃ gone, reasonsLeft s.head.reasons gone = reasonsAfterBattery s c starved
      ∧ afterBattery s.supply.batteryLow (readingTaken due c s) = removeReasons gone v := by
  have hu := readingTaken_head due c s
  obtain ⟨hrej, hhead, hlow, hst⟩ := rejudge_leaves (u := readingTaken due c s) (v := v) (starved := starved)
    (by rwa [hu]) (by rwa [hu]) (by rwa [readingTaken_starved])
  refine ⟨hhead.trans hu, _, ?_, by rw [afterBattery, hrej]⟩
  rw [hu] at hst
  simp only [reasonsLeft, reasonsAfterBattery, hu, hst, hlow, readingTaken_batteryLow_clears hch, Bool.not_false,
    Bool.and_true]

/-! ### How a pause ends -/

theorem retryStart_reasons (r : Reasons) (h : s.head.waiting = false) :
    retryStart { s with head := { s.head with reasons := r } } = { s with head := { s.head with reasons := r } } :=
  retryStart_still h

/-- Settles O20: each reading removes its reasons by `removeReasons`, and the last one gone is `resume_of_resumed`. -/
theorem pausesEnd : Obligations.PausesEnd := by
  intro s due c hreset hp hw u others
  have hu : u.head = s.head := readingTaken_head due c s
  have hpu : u.head.state = .paused := hu ▸ hp
  have hwu : u.head.waiting = false := hu ▸ hw
  refine ⟨fun hdue hch hhot hcool => ⟨fun honly _ t ht => ?_, fun hothers => ?_⟩, fun hdue hch starved v hv hset => ?_,
    fun hdue hch => ?_, fun hdue => ⟨fun honly t ht => ?_, fun hothers => ?_⟩⟩
  · rw [converterReading_due c hreset hdue, endConversion_temp hch, afterTemp_cool hch hhot hcool,
      removeReasons_last hpu (by rw [hu, honly]; decide) (by rw [hu, honly]; rfl)]
    exact settled_congr (resume_of_resumed ht).2
  · rw [converterReading_due c hreset hdue, endConversion_temp hch, afterTemp_cool hch hhot hcool,
      removeReasons_stays hpu ((reasonsLeft_onlyHot _).trans (by rw [hu])) (by simpa [Reasons.any] using hothers)]
    exact settled_congr (retryStart_reasons _ hwu)
  · obtain ⟨hhead, gone, hgone, hafter⟩ := afterBattery_paused (due := due) hch hp hv hset
    have hpv : v.head.state = .paused := hhead ▸ hp
    have hwv : v.head.waiting = false := hhead ▸ hw
    rw [converterReading_due c hreset hdue, endConversion_battery hch, hafter]
    rw [← hhead] at hgone
    refine ⟨fun hany => ?_, fun hnone hsome t ht => ?_⟩
    · rw [removeReasons_stays hpv hgone hany]
      exact settled_congr (retryStart_reasons _ hwv)
    · rw [removeReasons_last hpv (hhead ▸ hsome) (hgone.trans hnone)]
      exact settled_congr (resume_of_resumed ht).2
  · rw [converterReading_due c hreset hdue]
    rcases hch with hch | ⟨hch, hstill⟩
    · rw [endConversion_level hch]
    · rw [endConversion_temp hch, afterTemp_stands hch hstill, removeReasons_none hpu]
      exact settled_congr (retryStart_still hwu)
  · rw [paperPresentTimerExpiry_due hreset hdue]
    refine settled_congr (Eq.trans (removeReasons_last (gone := onlyNoPaper) ?_ ?_ ?_) (resume_of_resumed ht).1)
    · exact hp
    · exact ne_of_eq_of_ne honly (by decide)
    · exact (reasonsLeft_onlyNoPaper _).trans (congrArg (fun r : Reasons => { r with noPaper := false }) honly)
  · rw [paperPresentTimerExpiry_due hreset hdue]
    exact settled_congr (removeReasons_stays hp (reasonsLeft_onlyNoPaper _) (by simpa [Reasons.any] using hothers))

end Sys2Proof.Steps
end

section
/-!
O23: the phases of a row under an unchanging limit (R38).
-/

namespace Sys2Proof.Steps

open Sys2Proof.Machine Sys2Proof.Safety

variable {r : BurnRow} {hot c w : List Nat} {ps : List (List Nat)} {n : Nat}

/-! ### One phase -/

theorem pack_cold (h : r.coldLeft hot ≠ []) (n : Nat) : r.pack hot n = (r.coldLeft hot).take n := by
  simp [BurnRow.pack, BurnRow.inCold, h]

theorem pack_warm (h : r.coldLeft hot = []) (n : Nat) : r.pack hot n = (r.hotLeft hot).take n := by
  simp [BurnRow.pack, BurnRow.inCold, h]

theorem mem_coldLeft {d : Nat} : d ∈ r.coldLeft hot ↔ d ∈ r.marked ∧ d ∉ hot ∧ d ∉ r.burned := by
  simp [BurnRow.coldLeft]

theorem mem_hotLeft {d : Nat} : d ∈ r.hotLeft hot ↔ d ∈ r.marked ∧ d ∈ hot ∧ d ∉ r.burned := by
  simp [BurnRow.hotLeft]

theorem pack_sublist_marked (r : BurnRow) (hot : List Nat) (n : Nat) : (r.pack hot n).Sublist r.marked := by
  by_cases h : r.coldLeft hot = []
  · rw [pack_warm h]
    exact (List.take_sublist _ _).trans List.filter_sublist
  · rw [pack_cold h]
    exact (List.take_sublist _ _).trans List.filter_sublist

theorem unburned_eq_nil_iff_left (r : BurnRow) (hot : List Nat) :
    r.unburned = [] ↔ r.coldLeft hot = [] ∧ r.hotLeft hot = [] := by
  simp only [List.eq_nil_iff_forall_not_mem, mem_unburned, mem_coldLeft, mem_hotLeft]
  refine ⟨fun h => ⟨fun d hd => h d ⟨hd.1, hd.2.2⟩, fun d hd => h d ⟨hd.1, hd.2.2⟩⟩, fun ⟨hcold, hwarm⟩ d ⟨hm, hb⟩ => ?_⟩
  by_cases hd : d ∈ hot
  · exact hwarm d ⟨hm, hd, hb⟩
  · exact hcold d ⟨hm, hd, hb⟩

/-! ### What a phase leaves -/

/-- R12: of a class `p`, the dots of a phase leave those that were unburned. -/
theorem classLeft_burnedBy (p : Nat → Bool) (r : BurnRow) (dots : List Nat) :
    (r.marked.filter fun d => p d && !(r.burnedBy dots).burned.contains d)
      = (r.marked.filter fun d => p d && !r.burned.contains d).filter fun d => decide (d ∉ dots) := by
  rw [List.filter_filter]
  refine List.filter_congr fun d _ => ?_
  by_cases h : d ∈ dots <;> simp [BurnRow.burnedBy, h]

theorem coldLeft_burnedBy (r : BurnRow) (hot dots : List Nat) :
    (r.burnedBy dots).coldLeft hot = (r.coldLeft hot).filter fun d => decide (d ∉ dots) :=
  classLeft_burnedBy (fun d => !hot.contains d) r dots

theorem hotLeft_burnedBy (r : BurnRow) (hot dots : List Nat) :
    (r.burnedBy dots).hotLeft hot = (r.hotLeft hot).filter fun d => decide (d ∉ dots) :=
  classLeft_burnedBy (fun d => hot.contains d) r dots

theorem filter_notMem_take {l : List Nat} (h : l.Nodup) (n : Nat) :
    (l.filter fun d => decide (d ∉ l.take n)) = l.drop n := by
  have htake : (l.take n).filter (fun d => decide (d ∉ l.take n)) = [] := by simp
  have hdrop : (l.drop n).filter (fun d => decide (d ∉ l.take n)) = l.drop n :=
    List.filter_eq_self.2 fun d hd => decide_eq_true fun ht => List.disjoint_take_drop h (le_refl n) ht hd
  calc l.filter (fun d => decide (d ∉ l.take n))
      = (l.take n ++ l.drop n).filter (fun d => decide (d ∉ l.take n)) := by rw [List.take_append_drop]
    _ = l.drop n := by rw [List.filter_append, htake, hdrop, List.nil_append]

/-- R38: a cold phase takes the first cold dots, and the hot dots wait. -/
theorem left_after_cold (hm : r.marked.Nodup) (h : r.coldLeft hot ≠ []) (n : Nat) :
    (r.burnedBy (r.pack hot n)).coldLeft hot = (r.coldLeft hot).drop n
      ∧ (r.burnedBy (r.pack hot n)).hotLeft hot = r.hotLeft hot := by
  rw [pack_cold h, coldLeft_burnedBy, hotLeft_burnedBy]
  refine ⟨filter_notMem_take (hm.filter _) n, List.filter_eq_self.2 fun d hd => decide_eq_true fun ht => ?_⟩
  exact (mem_coldLeft.1 (List.mem_of_mem_take ht)).2.1 (mem_hotLeft.1 hd).2.1

/-- R38: a hot phase comes with no cold dot left, and takes the first hot dots. -/
theorem left_after_warm (hm : r.marked.Nodup) (h : r.coldLeft hot = []) (n : Nat) :
    (r.burnedBy (r.pack hot n)).coldLeft hot = []
      ∧ (r.burnedBy (r.pack hot n)).hotLeft hot = (r.hotLeft hot).drop n := by
  rw [pack_warm h, coldLeft_burnedBy, hotLeft_burnedBy, h]
  exact ⟨rfl, filter_notMem_take (hm.filter _) n⟩

/-! ### The phases of a row -/

/-- R38: `ps` are the phases of the cold dots `c` and the hot dots `w` under the limit `n`: the cold dots from the first, `n`
at a time, and then the hot dots in the same way. -/
inductive SplitInto (n : Nat) : List Nat → List Nat → List (List Nat) → Prop
  | done : SplitInto n [] [] []
  | cold {c w : List Nat} {ps : List (List Nat)} (hc : c ≠ []) (rest : SplitInto n (c.drop n) w ps) :
      SplitInto n c w (c.take n :: ps)
  | warm {w : List Nat} {ps : List (List Nat)} (hw : w ≠ []) (rest : SplitInto n [] (w.drop n) ps) :
      SplitInto n [] w (w.take n :: ps)

theorem length_drop_lt {l : List Nat} (hl : l ≠ []) (hn : 1 ≤ n) : (l.drop n).length < l.length := by
  have := List.length_pos_of_ne_nil hl
  rw [List.length_drop]
  omega

/-- R38: a row is split so, whatever of it is burned already, when there is fuel for each dot left. -/
theorem phasesOf_splitInto (hn : 1 ≤ n) (fuel : Nat) (r : BurnRow) (hm : r.marked.Nodup)
    (hfuel : (r.coldLeft hot).length + (r.hotLeft hot).length ≤ fuel) :
    SplitInto n (r.coldLeft hot) (r.hotLeft hot) (phasesOf n fuel r hot) := by
  induction fuel generalizing r with
  | zero =>
    have hcold : r.coldLeft hot = [] := List.eq_nil_of_length_eq_zero (by omega)
    have hwarm : r.hotLeft hot = [] := List.eq_nil_of_length_eq_zero (by omega)
    rw [hcold, hwarm]
    exact .done
  | succ fuel ih =>
    have ih := ih (r.burnedBy (r.pack hot n)) hm
    by_cases hcold : r.coldLeft hot = []
    · by_cases hwarm : r.hotLeft hot = []
      · rw [phasesOf, if_pos ((unburned_eq_nil_iff_left r hot).2 ⟨hcold, hwarm⟩), hcold, hwarm]
        exact .done
      · have hleft : ¬ r.unburned = [] := fun h => hwarm ((unburned_eq_nil_iff_left r hot).1 h).2
        obtain ⟨hc, hw⟩ := left_after_warm hm hcold n
        have hlt := length_drop_lt hwarm hn
        rw [hc, hw, List.length_nil] at ih
        rw [phasesOf, if_neg hleft, pack_warm hcold, hcold]
        rw [pack_warm hcold] at ih
        exact .warm hwarm (ih (by omega))
    · have hleft : ¬ r.unburned = [] := fun h => hcold ((unburned_eq_nil_iff_left r hot).1 h).1
      obtain ⟨hc, hw⟩ := left_after_cold hm hcold n
      have hlt := length_drop_lt hcold hn
      rw [hc, hw] at ih
      rw [phasesOf, if_neg hleft, pack_cold hcold]
      rw [pack_cold hcold] at ih
      exact .cold hcold (ih (by omega))

/-- `ceil(k / n)` is one more than for what a first part of `n` leaves. -/
theorem parts_succ {l : List Nat} (hl : l ≠ []) (hn : 1 ≤ n) :
    (l.length + n - 1) / n = ((l.drop n).length + n - 1) / n + 1 := by
  have hpos := List.length_pos_of_ne_nil hl
  rw [List.length_drop]
  rcases le_total n l.length with h | h
  · rw [← Nat.add_div_right _ hn]
    congr 1
    omega
  · have hlast : (l.length - n + n - 1) / n = 0 := Nat.div_eq_of_lt (by omega)
    rw [hlast]
    exact Nat.div_eq_of_lt_le (by omega) (by omega)

theorem SplitInto.length_eq (hn : 1 ≤ n) (h : SplitInto n c w ps) :
    ps.length = (c.length + n - 1) / n + (w.length + n - 1) / n := by
  have hzero : (([] : List Nat).length + n - 1) / n = 0 := Nat.div_eq_of_lt (by simp only [List.length_nil]; omega)
  induction h with
  | done => rw [hzero]; rfl
  | cold hc _ ih => rw [List.length_cons, ih, parts_succ hc hn]; omega
  | warm hw _ ih => rw [List.length_cons, ih, parts_succ hw hn]; omega

/-- R38: the phases in their order are the cold dots and then the hot dots. -/
theorem SplitInto.flatten_eq (h : SplitInto n c w ps) : ps.flatten = c ++ w := by
  induction h with
  | done => rfl
  | cold _ _ ih => rw [List.flatten_cons, ih, ← List.append_assoc, List.take_append_drop]
  | warm _ _ ih => rw [List.flatten_cons, ih, List.nil_append, List.take_append_drop, List.nil_append]

/-- R38: a phase never mixes the classes. -/
theorem SplitInto.unmixed (h : SplitInto n c w ps) : ∀ p ∈ ps, p ⊆ c ∨ p ⊆ w := by
  induction h with
  | done => exact fun p hp => absurd hp List.not_mem_nil
  | cold _ _ ih =>
    refine List.forall_mem_cons.2 ⟨.inl (List.take_subset _ _), fun p hp => ?_⟩
    exact (ih p hp).imp_left fun hsub _ hd => List.mem_of_mem_drop (hsub hd)
  | warm _ _ ih =>
    refine List.forall_mem_cons.2 ⟨.inr (List.take_subset _ _), fun p hp => ?_⟩
    exact (ih p hp).imp_right fun hsub _ hd => List.mem_of_mem_drop (hsub hd)

/-! ### The statement -/

theorem coldLeft_eq (r : BurnRow) (hot : List Nat) :
    r.coldLeft hot = r.marked.filter fun d => decide (d ∉ hot) && decide (d ∉ r.burned) := by
  simp [BurnRow.coldLeft]

theorem hotLeft_eq (r : BurnRow) (hot : List Nat) :
    r.hotLeft hot = r.marked.filter fun d => decide (d ∈ hot) && decide (d ∉ r.burned) := by
  simp [BurnRow.hotLeft]

/-- R4, R38: the dots of each class of a row of which none is burned. -/
theorem left_of_unburnt (h : r.burned = []) (hot : List Nat) :
    r.coldLeft hot = (r.marked.filter fun d => decide (d ∉ hot))
      ∧ r.hotLeft hot = r.marked.filter fun d => decide (d ∈ hot) := by
  simp [BurnRow.coldLeft, BurnRow.hotLeft, h]

/-- Each dot is of one class. -/
theorem cold_append_hot_perm (l hot : List Nat) :
    ((l.filter fun d => decide (d ∉ hot)) ++ l.filter fun d => decide (d ∈ hot)).Perm l := by
  have hnot : (l.filter fun d => decide (d ∉ hot)) = l.filter fun d => !decide (d ∈ hot) := by simp
  rw [hnot]
  exact List.perm_append_comm.trans (List.filter_append_perm _ l)

/-- Settles O23: a phase by `pack_cold` and `pack_warm`, the row by `phasesOf_splitInto`. -/
theorem rowsSplitIntoPhases : Obligations.RowsSplitIntoPhases := by
  refine ⟨fun r hot n hn hm hu => ?_, fun marked hot n hn hm => ?_⟩
  · intro dots cold warm
    obtain ⟨hne, hlen, -, hmem⟩ := pack_sound hm hu hot hn
    refine ⟨hne, hlen, hm.sublist (pack_sublist_marked r hot n), ?_, ?_, hmem⟩
    · rw [show cold = r.coldLeft hot from (coldLeft_eq r hot).symm]
      exact fun h => pack_cold h n
    · rw [show cold = r.coldLeft hot from (coldLeft_eq r hot).symm,
        show warm = r.hotLeft hot from (hotLeft_eq r hot).symm]
      exact fun h => pack_warm h n
  · intro r phases c h
    have hnodup : marked.Nodup := hm.imp Nat.ne_of_lt
    obtain ⟨hcold, hwarm⟩ := left_of_unburnt (r := r) rfl hot
    have hperm := cold_append_hot_perm marked hot
    have hsplit : SplitInto n (marked.filter fun d => decide (d ∉ hot)) (marked.filter fun d => decide (d ∈ hot))
        phases := by
      have hs := phasesOf_splitInto (hot := hot) hn marked.length r hnodup
      rw [hcold, hwarm, ← List.length_append, hperm.length_eq] at hs
      exact hs le_rfl
    rw [hsplit.flatten_eq]
    refine ⟨hsplit.length_eq hn, hperm.nodup_iff.2 hnodup, fun d => hperm.mem_iff, fun p hp => ?_⟩
    have hclass {q : Nat → Prop} [DecidablePred q] (hsub : p ⊆ marked.filter fun d => decide (q d)) : ∀ d ∈ p, q d :=
      fun d hd => of_decide_eq_true (List.mem_filter.1 (hsub hd)).2
    exact (hsplit.unmixed p hp).imp hclass hclass

end Sys2Proof.Steps
end

section
/-!
O21: the quantities derived from a code, and the ceiling current (R26, R33).
-/

namespace Sys2Proof.Steps

open Sys2Proof.Machine Sys2Proof.Safety

/-- R33: the four bands of the battery voltage. -/
theorem ceilingCurrent_bands (v : Nat) :
    (7000 ≤ v ∧ ceilingCurrent v = 2400)
      ∨ (5800 ≤ v ∧ v < 7000 ∧ ceilingCurrent v = 800 + (v - 5800) * 4 / 3)
      ∨ (5400 ≤ v ∧ v < 5800 ∧ ceilingCurrent v = 400 + (v - 5400))
      ∨ (v < 5400 ∧ ceilingCurrent v = 0) := by
  unfold ceilingCurrent
  split_ifs with htop hhigh hlow
  · exact .inl ⟨htop, rfl⟩
  · exact .inr (.inl ⟨hhigh, not_le.1 htop, rfl⟩)
  · exact .inr (.inr (.inl ⟨hlow, not_le.1 hhigh, rfl⟩))
  · exact .inr (.inr (.inr ⟨not_le.1 hlow, rfl⟩))

/-- R26: the temperature with its edges, and the codes at which HOT sets and clears. -/
theorem celsius_edges (c : Byte) :
    -10 ≤ celsius c ∧ celsius c ≤ 90 ∧ (65 ≤ celsius c ↔ c.toNat ≤ 66) ∧ (celsius c ≤ 55 ↔ 90 ≤ c.toNat) := by
  have hc := c.isLt
  unfold celsius
  omega

/-- Settles O21: `millivolts_eq`, `celsius_edges`, and `ceilingCurrent_bands` at a voltage and the next. -/
theorem derivedQuantities : Obligations.DerivedQuantities := by
  refine ⟨fun c => ?_, fun v => ?_, fun s => ⟨rfl, rfl, rfl, rfl⟩⟩
  · obtain ⟨hcold, hwarm, hsets, hclears⟩ := celsius_edges c
    have hc := c.isLt
    have hhere := ceilingCurrent_bands (millivolts c)
    have hnext := ceilingCurrent_bands (millivolts c + 40)
    rw [millivolts_eq] at *
    refine ⟨rfl, by omega, rfl, hcold, hwarm, by decide, by decide, hsets, hclears, ?_⟩
    omega
  · have hhere := ceilingCurrent_bands v
    have hnext := ceilingCurrent_bands (v + 1)
    omega

end Sys2Proof.Steps
end

section
/-!
SUPPORT. What the window's operations make of the lines, the column and the layout (R53 to R61, R69).
-/

namespace Sys2Proof.Steps

open Sys2Proof.Machine Sys2Proof.Safety Sys2Proof.Laws

variable {s : State} {f : Formatter} {l : Line}

/-! ### Lines and cells (R53, R57, R58) -/

theorem fresh_ok : LineOk .fresh :=
  ⟨List.length_replicate, fun c hc => by rw [List.eq_of_mem_replicate hc]; exact ⟨by decide, List.nodup_nil⟩⟩

/-- R57: a code is held once, and a fourth replaces the newest. -/
theorem addCode_ok (code : Byte) {codes : List Byte} (h : codes.length ≤ 3 ∧ codes.Nodup) :
    (addCode code codes).length ≤ 3 ∧ (addCode code codes).Nodup := by
  obtain ⟨hlen, hdup⟩ := h
  have append {old : List Byte} (hold : old.Nodup) (hnew : code ∉ old) : (old ++ [code]).Nodup :=
    List.nodup_append.2 ⟨hold, List.nodup_singleton _, by grind⟩
  unfold addCode
  split_ifs with hin hfew
  · exact ⟨hlen, hdup⟩
  · exact ⟨by simpa using hfew, append hdup (by simpa using hin)⟩
  · refine ⟨by simp, append (hdup.sublist (List.take_sublist 2 codes)) fun hmem => ?_⟩
    exact absurd (List.mem_of_mem_take hmem) (by simpa using hin)

theorem placeAt_ok (h : LineOk l) (column : Nat) (wide : Wide) (code : Byte) : LineOk (l.placeAt column wide code) := by
  obtain ⟨hlen, hcells⟩ := h
  refine ⟨(List.length_modify _ _ _).trans hlen, fun c hc => ?_⟩
  obtain ⟨n, hn⟩ := List.mem_iff_getElem?.1 hc
  simp only [Line.placeAt, List.getElem?_modify, Option.map_eq_map, Option.map_eq_some_iff] at hn
  obtain ⟨old, hold, rfl⟩ := hn
  have hok := hcells old (List.mem_of_getElem? hold)
  split
  · refine addCode_ok code ?_
    split
    · exact hok
    · exact ⟨by decide, List.nodup_nil⟩
  · exact hok

theorem inked_cells (l : Line) (code : Byte) : (l.inked code).cells = l.cells := by
  unfold Line.inked
  split <;> rfl

theorem inked_ok (h : LineOk l) (code : Byte) : LineOk (l.inked code) := by
  simpa only [LineOk, inked_cells] using h

/-! ### The window (R53, R69) -/

theorem cursor_ok (h : ∀ l ∈ f.window, LineOk l) : LineOk f.cursor := by
  unfold Formatter.cursor
  cases hline : f.window[f.cursorLine]? with
  | none => exact fresh_ok
  | some l => exact h l (List.mem_of_getElem? hline)

theorem setCursor_lines (h : ∀ l ∈ f.window, LineOk l) (hl : LineOk l) : ∀ x ∈ (f.setCursor l).window, LineOk x := by
  intro x hx
  rcases List.mem_or_eq_of_mem_set hx with hx | rfl
  · exact h x hx
  · exact hl

theorem dropOldest_lines (h : ∀ l ∈ f.window, LineOk l) (old : Line) : ∀ x ∈ (f.dropOldest old).window, LineOk x := by
  unfold Formatter.dropOldest
  dsimp only
  split
  · simpa using fresh_ok
  · exact fun x hx => h x (List.mem_of_mem_tail hx)

/-- R61, R69: what a commit and a line advance change of the formatter: the window, the cursor line and the form line counter. -/
def windowed (f : Formatter) (w : List Line) (cursor counter : Nat) : Formatter :=
  { f with window := w, cursorLine := cursor, formCounter := counter }

theorem commitOldest_windowed (s : State) : ∃ w c n, (commitOldest s).fmt = windowed s.fmt w c n := by
  by_cases hw : s.fmt.window = []
  · exact ⟨s.fmt.window, s.fmt.cursorLine, s.fmt.formCounter, by simp only [commitOldest, hw, windowed]; rw [← hw]⟩
  · obtain ⟨line, rest, hw⟩ := List.exists_cons_of_ne_nil hw
    exact ⟨_, _, _, commitOldest_fmt line rest hw⟩

theorem lineAdvance_windowed (s : State) : ∃ w c n, (lineAdvance s).fmt = windowed s.fmt w c n := by
  unfold lineAdvance
  split_ifs
  · exact ⟨_, s.fmt.cursorLine, s.fmt.formCounter, rfl⟩
  · exact ⟨s.fmt.window, _, s.fmt.formCounter, rfl⟩
  · exact ⟨_, _, s.fmt.formCounter, rfl⟩
  · obtain ⟨w, c, n, e⟩ := commitOldest_windowed s
    exact ⟨_, _, n, by simp only [e]; rfl⟩

/-- R62: an NL moves the column to the left margin, and is a line advance. -/
theorem newLine_windowed (s : State) :
    ∃ w c n, (newLine s).fmt = windowed { s.fmt with column := s.fmt.layout.left } w c n :=
  lineAdvance_windowed (carriageReturn s)

/-! ### Fitting inside the right margin (R56) -/

theorem fits_iff (f : Formatter) : f.fits = true ↔ f.column + (if f.layout.double then 1 else 0) ≤ f.layout.right := by
  unfold Formatter.fits
  split <;> simp

theorem newLine_fits (h : s.fmt.layout.left < s.fmt.layout.right) : (newLine s).fmt.fits = true := by
  obtain ⟨w, c, n, e⟩ := newLine_windowed s
  rw [fits_iff, e]
  show s.fmt.layout.left + (if s.fmt.layout.double then 1 else 0) ≤ s.fmt.layout.right
  split <;> omega

theorem lastColumn_fits (h : f.layout.left < f.layout.right) : ({ f with column := f.layout.lastColumn } : Formatter).fits = true := by
  rw [fits_iff]
  unfold Layout.lastColumn
  dsimp only
  split <;> omega

theorem makeFit_of_fits (h : s.fmt.fits = true) : makeFit s = s := if_pos h

theorem makeFit_of_wrap (h : s.fmt.fits = false) (hw : s.fmt.layout.wrap = true) : makeFit s = newLine s := by
  simp [makeFit, h, hw]

theorem makeFit_of_noWrap (h : s.fmt.fits = false) (hw : s.fmt.layout.wrap = false) :
    makeFit s = { s with fmt := { s.fmt with column := s.fmt.layout.lastColumn } } := by
  simp [makeFit, h, hw]

/-- R56: after what precedes it, a printable code fits. -/
theorem makeFit_fits (h : s.fmt.layout.left < s.fmt.layout.right) : (makeFit s).fmt.fits = true := by
  cases hfit : s.fmt.fits with
  | true => rwa [makeFit_of_fits hfit]
  | false =>
    cases hwrap : s.fmt.layout.wrap with
    | true => rw [makeFit_of_wrap hfit hwrap]; exact newLine_fits h
    | false => rw [makeFit_of_noWrap hfit hwrap]; exact lastColumn_fits h

theorem putPrintable_of_fits (c : Byte) (h : s.fmt.fits = true) :
    putPrintable c s = { s with fmt := s.fmt.place (placedCode c) } := by
  unfold putPrintable
  rw [makeFit_of_fits h]

/-- R56: a printable code is placed as it would be had what precedes it been done before. -/
theorem putPrintable_makeFit (c : Byte) (h : s.fmt.layout.left < s.fmt.layout.right) :
    putPrintable c s = putPrintable c (makeFit s) := by
  rw [putPrintable_of_fits c (makeFit_fits h)]
  rfl

end Sys2Proof.Steps
end

section
/-!
SUPPORT. Each of the formatter's operations keeps the context, the lines and the records sound (R52 to R91).
-/

namespace Sys2Proof.Steps

open Sys2Proof.Machine Sys2Proof.Safety Sys2Proof.Laws

/-- R52 to R58, R85, R88: `FormatterOk`, which looks at the Print Formatter alone, with a name for each of its parts. -/
structure FormatterSound (f : Formatter) : Prop where
  layout : LayoutOk f.layout
  column : ColumnOk f.layout f.column
  stack : ∀ l ∈ f.stack, LayoutOk l
  lines : ∀ l ∈ f.window, LineOk l
  items : ∀ it ∈ f.ptq, ItemOk it
  form : f.formLength ≤ 255
  counter : f.formCounter ≤ 255
  below : 0 < f.formLength → f.formCounter < f.formLength
  delay : f.flushDelay = 0 ∨ (100 ≤ f.flushDelay ∧ f.flushDelay ≤ 5000)
  noted : ∀ c ∈ notedColumn f.activity, ColumnOk f.layout c

theorem FormatterSound.iff_formatterOk {s : State} : FormatterSound s.fmt ↔ FormatterOk s :=
  ⟨fun ⟨h1, h2, h3, h4, h5, h6, h7, h8, h9, h10⟩ => ⟨h1, h2, h3, h4, h5, h6, h7, h8, h9, h10⟩,
    fun ⟨h1, h2, h3, h4, h5, h6, h7, h8, h9, h10⟩ => ⟨h1, h2, h3, h4, h5, h6, h7, h8, h9, h10⟩⟩

variable {s : State} {f f' : Formatter}

theorem noted_of_none {a : Activity} {P : Nat → Prop} (h : notedColumn a = none) : ∀ c ∈ notedColumn a, P c := by
  simp [h]

namespace FormatterSound

/-- R52, R53: the reset values. -/
theorem reset : FormatterSound .reset where
  layout := by decide
  column := by decide
  stack := nofun
  lines := by simpa [Formatter.reset] using fresh_ok
  items := nofun
  form := by decide
  counter := by decide
  below := nofun
  delay := by decide
  noted := nofun

/-- R54: a column within the margins and one past them. -/
theorem setColumn (h : FormatterSound f) {c : Nat} (hc : ColumnOk f.layout c) : FormatterSound { f with column := c } :=
  { h with column := hc }

theorem setWindow (h : FormatterSound f) {w : List Line} (hw : ∀ l ∈ w, LineOk l) (n : Nat) :
    FormatterSound { f with window := w, cursorLine := n } :=
  { h with lines := hw }

theorem setCursor (h : FormatterSound f) {l : Line} (hl : LineOk l) : FormatterSound (f.setCursor l) :=
  { h with lines := setCursor_lines h.lines hl }

/-- R46: an activity in which no flush has noted a column. -/
theorem setActivity (h : FormatterSound f) {a : Activity} (ha : notedColumn a = none) : FormatterSound { f with activity := a } :=
  { h with noted := noted_of_none ha }

/-- R52, R91: the form line counter stays below the form length. -/
theorem nextCounter_lt (h : FormatterSound f) : f.nextCounter ≤ 255 ∧ (0 < f.formLength → f.nextCounter < f.formLength) := by
  have hform := h.form
  unfold Formatter.nextCounter
  split
  · omega
  · next hpos =>
    have := Nat.mod_lt (f.formCounter + 1) (Nat.pos_of_ne_zero hpos)
    omega

theorem dropOldest (h : FormatterSound f) (line : Line) : FormatterSound (f.dropOldest line) where
  __ := h
  lines := dropOldest_lines h.lines line
  counter := by
    unfold Formatter.dropOldest
    exact iteInduction (motive := (· ≤ 255)) (fun _ => h.counter) fun _ => h.nextCounter_lt.1
  below := by
    unfold Formatter.dropOldest
    exact iteInduction (motive := fun n => 0 < f.formLength → n < f.formLength) (fun _ => h.below) fun _ => h.nextCounter_lt.2

theorem openLine (h : FormatterSound f) : FormatterSound f.openLine :=
  h.setWindow (fun l hl => by
    rcases List.mem_append.1 hl with hl | hl
    · exact h.lines l hl
    · exact List.mem_singleton.1 hl ▸ fresh_ok) _

/-- R57, R58: a code that fits is placed, and the column stays within the right margin + 1. -/
theorem place (h : FormatterSound f) (hfits : f.fits = true) (code : Byte) : FormatterSound (f.place code) := by
  have hline := cursor_ok h.lines
  have hcolumn := h.column.1
  rw [fits_iff] at hfits
  unfold Formatter.place
  dsimp only
  split at hfits <;> split
  · exact (h.setCursor (inked_ok (placeAt_ok (placeAt_ok hline _ _ _) _ _ _) _)).setColumn
      (by simp only [Formatter.setCursor, ColumnOk]; omega)
  · contradiction
  · contradiction
  · exact (h.setCursor (inked_ok (placeAt_ok hline _ _ _) _)).setColumn
      (by simp only [Formatter.setCursor, ColumnOk]; omega)

end FormatterSound

/-! ### Line advances and characters (R55 to R68) -/

theorem commitOldest_sound (h : FormatterSound s.fmt) : FormatterSound (commitOldest s).fmt := by
  by_cases hw : s.fmt.window = []
  · simpa only [commitOldest, hw] using h
  · obtain ⟨line, rest, hw⟩ := List.exists_cons_of_ne_nil hw
    rw [commitOldest_fmt line rest hw]
    exact h.dropOldest line

theorem lineAdvance_sound (h : FormatterSound s.fmt) : FormatterSound (lineAdvance s).fmt := by
  unfold lineAdvance
  split_ifs
  · exact h.setCursor (cursor_ok h.lines)
  · exact h.setWindow h.lines _
  · exact h.openLine
  · exact (commitOldest_sound h).openLine

theorem newLine_sound (h : FormatterSound s.fmt) : FormatterSound (newLine s).fmt := by
  obtain ⟨hmargins, -⟩ := h.layout
  exact lineAdvance_sound (s := carriageReturn s) (h.setColumn (by simp only [ColumnOk]; omega))

theorem makeFit_sound (h : FormatterSound s.fmt) : FormatterSound (makeFit s).fmt := by
  unfold makeFit
  split_ifs
  · exact h
  · exact newLine_sound h
  · obtain ⟨hmargins, -⟩ := h.layout
    refine h.setColumn ?_
    unfold Layout.lastColumn
    simp only [ColumnOk]
    split <;> omega

theorem putPrintable_sound (h : FormatterSound s.fmt) (c : Byte) : FormatterSound (putPrintable c s).fmt :=
  (makeFit_sound h).place (makeFit_fits h.layout.1) _

theorem clampColumn_ok {l : Layout} (h : LayoutOk l) (c : Nat) : ColumnOk l (l.clampColumn c) := by
  obtain ⟨hmargins, -⟩ := h
  simp only [Layout.clampColumn, ColumnOk]
  omega

/-- R60: HT stays within the margins. -/
theorem FormatterSound.tab (h : FormatterSound f) : FormatterSound f.tab := by
  obtain ⟨hmargins, -⟩ := h.layout
  obtain ⟨hleft, -⟩ := h.column
  refine h.setColumn ?_
  cases hfind : f.layout.tabs.find? fun t => decide (f.column < t ∧ t ≤ f.layout.right) with
  | none => simp only [Option.getD_none, ColumnOk]; omega
  | some t =>
    have ht := List.find?_some hfind
    simp only [decide_eq_true_eq] at ht
    simp only [Option.getD_some, ColumnOk]
    omega

theorem FormatterSound.backspace (h : FormatterSound f) : FormatterSound f.backspace := by
  obtain ⟨hmargins, -⟩ := h.layout
  obtain ⟨hleft, hright⟩ := h.column
  exact h.setColumn (by simp only [ColumnOk]; omega)

/-- R66, R67: a change of the width or of the mark column. -/
theorem FormatterSound.setLayout (h : FormatterSound f) (double : Bool) {mark : Nat} (hmark : mark ≤ 39) :
    FormatterSound { f with layout := { f.layout with double := double, mark := mark } } := by
  obtain ⟨hmargins, hright, -, htabs⟩ := h.layout
  exact { h with layout := ⟨hmargins, hright, hmark, htabs⟩ }

theorem carryChar_sound (h : FormatterSound s.fmt) (c : Byte) : FormatterSound (carryChar c s).fmt := by
  obtain ⟨hmargins, hright, hmark, htabs⟩ := h.layout
  have hreturn : FormatterSound (carriageReturn s).fmt := h.setColumn (by simp only [ColumnOk]; omega)
  have hvertical : FormatterSound (verticalTab s).fmt := by
    unfold verticalTab
    split
    · exact h
    · exact h.setWindow h.lines _
  have hform : FormatterSound (formFeed s).fmt := by
    unfold formFeed
    split
    · exact newLine_sound h
    · exact { h.setActivity (a := .draining (.formFeed none)) rfl with }
  have hset : FormatterSound s.fmt.setMark := h.setLayout _ (Nat.min_le_left _ _)
  have hexchange : FormatterSound s.fmt.exchange :=
    (h.setColumn (clampColumn_ok h.layout _)).setLayout _ (Nat.min_le_left _ _)
  have branch {p : Prop} [Decidable p] {t u : State} (ht : FormatterSound t.fmt) (hu : FormatterSound u.fmt) :
      FormatterSound (if p then t else u).fmt := by
    split
    · exact ht
    · exact hu
  unfold carryChar
  refine branch (putPrintable_sound h c) (branch hreturn (branch (lineAdvance_sound h) (branch (newLine_sound h) ?_)))
  refine branch hvertical (branch h.backspace (branch h.tab (branch hform (branch h ?_))))
  exact branch (h.setLayout _ hmark) (branch (h.setLayout _ hmark) (branch hset (branch hexchange h)))

/-! ### Directives (R86 to R90) -/

/-- R86: the margins that a sound record leaves in a sound layout. -/
theorem newMargins_ok {fields : FormatFields} (hf : FieldsOk fields) {l : Layout} (hl : LayoutOk l) :
    (newMargins fields l).1 < (newMargins fields l).2 ∧ (newMargins fields l).2 ≤ 39 := by
  obtain ⟨hleft, hright, -, hboth, -⟩ := hf
  obtain ⟨hmargins, hend, -⟩ := hl
  unfold newMargins
  cases ha : fields.left with
  | none =>
    cases hb : fields.right with
    | none => exact ⟨hmargins, hend⟩
    | some b =>
      have := hright b hb
      dsimp only
      split <;> omega
  | some a =>
    have := hleft a ha
    cases hb : fields.right with
    | none => dsimp only; split <;> omega
    | some b => exact ⟨hboth a ha b hb, hright b hb⟩

theorem getD_ok {α : Type} {P : α → Prop} {x : Option α} {y : α} (hx : ∀ a ∈ x, P a) (hy : P y) : P (x.getD y) := by
  cases x with
  | none => exact hy
  | some a => exact hx a rfl

/-- R86: the layout that a sound record leaves. -/
theorem FormatterSound.setFormat (h : FormatterSound f) {fields : FormatFields} (hf : FieldsOk fields)
    (hready : notedColumn f.activity = none) : FormatterSound (f.setFormat fields) := by
  obtain ⟨hleft, hend⟩ := newMargins_ok hf h.layout
  obtain ⟨-, -, hmark, htabs⟩ := h.layout
  obtain ⟨-, -, hfmark, -, hftabs, hform, hdelay⟩ := hf
  have hlayout : LayoutOk (f.setFormat fields).layout := by
    refine ⟨hleft, hend, getD_ok hfmark hmark, ?_⟩
    exact getD_ok (P := fun ts : List Nat => ts.length ≤ 16 ∧ ts.Pairwise (· < ·) ∧ ∀ t ∈ ts, t ≤ 39) hftabs htabs
  refine { h with layout := hlayout, column := ?_, form := getD_ok hform h.form, counter := ?_, below := ?_
                  delay := getD_ok (P := fun n => n = 0 ∨ (100 ≤ n ∧ n ≤ 5000)) hdelay h.delay
                  noted := noted_of_none hready }
  · simp only [Formatter.setFormat]
    split
    · exact clampColumn_ok hlayout _
    · next hnone =>
      have hsame : newMargins fields f.layout = (f.layout.left, f.layout.right) := by
        simp only [Bool.or_eq_true, Option.isSome_iff_ne_none, not_or, not_not] at hnone
        simp only [newMargins, hnone]
      simpa only [ColumnOk, hsame] using h.column
  · simp only [Formatter.setFormat]
    split
    · exact Nat.zero_le _
    · exact h.counter
  · simp only [Formatter.setFormat]
    cases hlen : fields.formLength with
    | none => exact h.below
    | some n => exact id

theorem FormatterSound.saveFormat (h : FormatterSound f) : FormatterSound f.saveFormat :=
  { h with stack := List.forall_mem_cons.2 ⟨h.layout, fun l hl => h.stack l (List.mem_of_mem_take hl)⟩ }

theorem carryDirective_sound (h : FormatterSound s.fmt) {d : Directive} (hd : ItemOk (.directive d))
    (hready : notedColumn s.fmt.activity = none) : FormatterSound (carryDirective d s).fmt := by
  cases d with
  | setFormat fields => exact h.setFormat (hd.1 fields rfl) hready
  | saveFormat => exact h.saveFormat
  | restoreFormat =>
    simp only [carryDirective, restoreFormat]
    split
    · exact h
    · next top rest hstack =>
      have hall := h.stack
      rw [hstack] at hall
      have htop := hall top List.mem_cons_self
      exact { h with
        layout := htop
        column := clampColumn_ok htop _
        stack := fun l hl => hall l (List.mem_cons_of_mem _ hl)
        noted := noted_of_none hready }
  | feed rows => exact { h.setActivity (a := .draining (.feed rows false)) rfl with }

/-! ### Items, takes and stalls (R46 to R51) -/

theorem takeItem_sound (h : FormatterSound s.fmt) (o : Owner) {it : Item} (hit : ItemOk it) :
    FormatterSound (takeItem o it s).fmt := by
  have h0 : FormatterSound { s.fmt with owner := o, activity := .ready } := { h.setActivity (a := .ready) rfl with }
  have item (t : State) (ht : FormatterSound t.fmt) (ends : Bool) : FormatterSound (afterItem ends t).fmt := { ht with }
  cases it with
  | char c => exact item _ (carryChar_sound h0 c) _
  | directive d => exact item _ (carryDirective_sound h0 hit rfl) _

theorem char_ok (c : Byte) : ItemOk (.char c) := ⟨nofun, nofun⟩

theorem checkPtqRoom_sound (h : FormatterSound s.fmt) : FormatterSound (checkPtqRoom s).fmt := by
  unfold checkPtqRoom
  split
  · exact { h with }
  · exact h

theorem takePtq_sound (h : FormatterSound s.fmt) : FormatterSound (takePtq s).fmt := by
  unfold takePtq
  split
  · exact h
  · next it rest hq =>
    have hall := h.items
    rw [hq] at hall
    refine takeItem_sound (checkPtqRoom_sound ?_) _ (hall it List.mem_cons_self)
    exact { h with items := fun x hx => hall x (List.mem_cons_of_mem _ hx) }

theorem takeKeyFeed_sound (h : FormatterSound s.fmt) : FormatterSound (takeKeyFeed s).fmt :=
  takeItem_sound (s := { s with fmt := { s.fmt with keyFeed := false } }) { h with } _ (char_ok _)

theorem removeHead_fmt (src : Source) (s : State) : (removeHead src s).fmt = s.fmt := by
  obtain ⟨r, k, q, e⟩ := removeHead_touches s src
  rw [e]

theorem takeSource_sound (h : FormatterSound s.fmt) (src : Source) : FormatterSound (takeSource src s).fmt := by
  unfold takeSource
  split
  · exact h
  · next code hcode =>
    have hdelivered (c : KeyChar) : FormatterSound (deliverQueues src (sinksOf src s) c (removeHead src s)).fmt := by
      show FormatterSound (removeHead src s).fmt
      rwa [removeHead_fmt]
    dsimp only
    split
    · exact takeItem_sound (hdelivered _) _ (char_ok _)
    · exact hdelivered _

theorem takeOwned_sound (h : FormatterSound s.fmt) : FormatterSound (takeOwned s).fmt := by
  unfold takeOwned
  split
  · exact h
  · exact takeSource_sound h _
  · split
    · exact takeKeyFeed_sound h
    · exact takeSource_sound h _
  · exact takeSource_sound h _
  · exact takePtq_sound h

theorem endStall_sound (h : FormatterSound s.fmt) : FormatterSound (endStall s).fmt := by
  have hleave : FormatterSound (leaveStall s).fmt := { h.setActivity (a := .ready) rfl with }
  unfold endStall
  split
  · split
    · exact hleave
    · split_ifs
      · exact takeOwned_sound h
      · exact h
      · exact hleave
  · exact h

theorem grant_sound (h : FormatterSound s.fmt) : FormatterSound (grant s).fmt := by
  obtain ⟨o, l, e⟩ := grant_touches s
  rw [e]
  exact { h with }

theorem beginStall_sound (h : FormatterSound s.fmt) : FormatterSound (beginStall s).fmt := by
  unfold beginStall
  split
  · split
    · exact h
    · split
      · exact h
      · exact { h.setActivity (a := .stalled) rfl with }
  · exact h

theorem judgeFormatter_sound (h : FormatterSound s.fmt) : FormatterSound (judgeFormatter s).fmt :=
  beginStall_sound (grant_sound (endStall_sound h))

theorem kickLink_fmt (s : State) : (kickLink s).fmt = s.fmt := by
  obtain ⟨k, rx, kd, e⟩ := kickLink_touches s
  rw [e]

theorem settleRow_sound (h : FormatterSound s.fmt) : FormatterSound (settleRow s).fmt := by
  refine judgeFormatter_sound ?_
  rw [kickLink_fmt]
  exact judgeFormatter_sound h

theorem takeIfReady_sound (h : FormatterSound s.fmt) (src : Source) : FormatterSound (takeIfReady src s).fmt := by
  unfold takeIfReady
  split
  · exact takeSource_sound h src
  · exact h

theorem formatterTake_sound (h : FormatterSound s.fmt) : FormatterSound (formatterTake s).fmt := by
  have h1 := grant_sound h
  unfold formatterTake
  dsimp only
  split_ifs
  · exact h
  · split
    · exact h
    · split
      · exact takePtq_sound h1
      · exact h
  · exact takeKeyFeed_sound h1
  · exact h
  · exact h

/-! ### Drains (R64, R70 to R72, R90) -/

theorem endDrain_sound (h : FormatterSound s.fmt) : FormatterSound (endDrain s).fmt :=
  { h.setActivity (a := .ready) rfl with }

theorem endFormFeed_sound (h : FormatterSound s.fmt) : FormatterSound (endFormFeed s).fmt :=
  endDrain_sound (s := { s with fmt := { s.fmt with formCounter := 0 } }) { h with counter := Nat.zero_le _, below := id }

theorem endLapse_sound (h : FormatterSound s.fmt) : FormatterSound (endLapse s).fmt := { h with }

theorem endFlushTimer_sound (h : FormatterSound s.fmt) : FormatterSound (endFlushTimer s).fmt := by
  unfold endFlushTimer
  dsimp only
  split
  · refine { h with noted := ?_ }
    rintro _ ⟨rfl⟩
    exact h.column
  · exact { h with }

/-- R64, R72, R90: the drain that ends has its noted column within the margins. -/
theorem lastCommitted_sound (h : FormatterSound s.fmt) {d : Drain} (hd : ∀ c, d = .flush c → ColumnOk s.fmt.layout c) :
    FormatterSound (lastCommitted d s).fmt := by
  obtain ⟨hmargins, -⟩ := h.layout
  have hleft : FormatterSound { s.fmt with column := s.fmt.layout.left } := h.setColumn (by simp only [ColumnOk]; omega)
  cases d with
  | flush column =>
    have hflag : FormatterSound (s.fmt.setCursor { s.fmt.cursor with continuation := true }) :=
      h.setCursor (cursor_ok h.lines)
    exact endDrain_sound (s := { s with fmt := { s.fmt.setCursor _ with column := column } })
      (hflag.setColumn (hd column rfl))
  | formFeed entries =>
    have h1 := hleft.setActivity (a := .draining (.formFeed (some (feedEntries s.fmt.rowsToTop)))) rfl
    simp only [lastCommitted]
    split
    · exact endFormFeed_sound h1
    · exact h1
  | feed rows committed => exact hleft.setActivity rfl

theorem drainCommit_sound (h : FormatterSound s.fmt) : FormatterSound (drainCommit s).fmt := by
  unfold drainCommit
  split
  · next d hd =>
    split
    · have hc := commitOldest_sound h
      dsimp only
      split
      · refine lastCommitted_sound hc ?_
        rintro c rfl
        obtain ⟨w, k, n, e⟩ := commitOldest_windowed s
        rw [e]
        exact h.noted c (by simp [hd, notedColumn])
      · exact hc
    · exact h
  · exact h

theorem appended_sound (es : List RowEntry) (h : FormatterSound s.fmt) : FormatterSound (appendEntries es s).fmt := by
  obtain ⟨d, u, k, e⟩ := appendEntries_touches s es
  rwa [e]

theorem formFeedAppend_sound (h : FormatterSound s.fmt) : FormatterSound (formFeedAppend s).fmt := by
  unfold formFeedAppend
  split
  · next n rest ha =>
    split
    · have h1 := appended_sound [.feed n]
        (s := { s with fmt := { s.fmt with activity := .draining (.formFeed (some rest)) } }) (h.setActivity rfl)
      dsimp only
      split
      · exact endFormFeed_sound h1
      · exact h1
    · exact h
  · exact h

theorem feedAppend_sound (h : FormatterSound s.fmt) : FormatterSound (feedAppend s).fmt := by
  unfold feedAppend
  split
  · split
    · exact endDrain_sound (appended_sound _ h)
    · exact h
  · exact h

end Sys2Proof.Steps
end

section
/-!
O55: every step keeps the formatter sound. The rows of the other blocks leave the formatter as it is, but for a FEED action's
key feed record (R48).
-/

namespace Sys2Proof.Steps

open Sys2Proof.Machine Sys2Proof.Safety Sys2Proof.Laws

variable {s : State}

/-- An operation of another block: the formatter stands. -/
def LeavesFmt (f : State → State) : Prop := ∀ s, (f s).fmt = s.fmt

/-! ### The Head Driver and the Supply Monitor -/

theorem proceed_leavesFmt : LeavesFmt proceed := fun s => by
  obtain ⟨h, u, k, e⟩ := proceed_touches s
  rw [e]

theorem beginRow_leavesFmt : LeavesFmt beginRow := fun s => by
  obtain ⟨h, u, k, e⟩ := beginRow_touches s
  rw [e]

theorem endRow_leavesFmt : LeavesFmt endRow := fun s => by
  obtain ⟨h, u, k, e⟩ := endRow_touches s
  rw [e]

theorem removeReasons_leavesFmt (r : Reasons) : LeavesFmt (removeReasons r) := fun s => by
  obtain ⟨h, u, k, e⟩ := removeReasons_touches s r
  rw [e]

theorem stepStart_leavesFmt (b : Bool) : LeavesFmt (stepStart b) := fun s => by
  obtain ⟨h, u, k, e⟩ := stepStart_touches s b
  rw [e]

theorem phaseStart_leavesFmt (cfg : HeadConfig) (r : BurnRow) : LeavesFmt (phaseStart cfg r) := fun s => by
  obtain ⟨h, u, k, e⟩ := phaseStart_touches s cfg r
  rw [e]

theorem endConversion_leavesFmt (c : Byte) : LeavesFmt (endConversion c) := fun s => by
  obtain ⟨h, u, k, e⟩ := endConversion_touches s c
  rw [e]

theorem forPhase_leavesFmt {f : Phase → State → State} (h : ∀ p, LeavesFmt (f p)) : LeavesFmt (forPhase f) := fun s => by
  unfold forPhase
  split
  · rfl
  · exact h _ s

theorem endPulse_leavesFmt (p : Phase) : LeavesFmt (endPulse p) := fun s => by
  unfold endPulse
  dsimp only
  split
  · split
    · exact stepStart_leavesFmt _ _
    · split
      · exact phaseStart_leavesFmt _ _ _
      · rfl
  · rfl

theorem endStep_leavesFmt : LeavesFmt endStep := fun s => by
  unfold endStep
  dsimp only
  split
  · exact endRow_leavesFmt _
  · split
    · exact endRow_leavesFmt _
    · exact stepStart_leavesFmt _ _
  · rfl

theorem endSettle_leavesFmt : LeavesFmt endSettle := fun s => by
  unfold endSettle
  dsimp only
  split
  · exact proceed_leavesFmt _
  · rfl

/-! ### The signal path, the connection and the Router -/

theorem changeConn_leavesFmt (new : Conn) : LeavesFmt (changeConn new) := fun s => by
  obtain ⟨g, h, f, k, e⟩ := changeConn_touches s new
  rw [e]

theorem enterIdle_leavesFmt : LeavesFmt enterIdle := fun s => by
  obtain ⟨c, g, m, r, k, e⟩ := enterIdle_touches s
  rw [e]

theorem arrive_leavesFmt (x : RxChar) : LeavesFmt (arrive x) := fun s => by
  obtain ⟨r, k, e⟩ := arrive_touches s x
  rw [e]

theorem judgeHold_leavesFmt : LeavesFmt judgeHold := fun s => by
  obtain ⟨h, f, k, e⟩ := judgeHold_touches s
  rw [e]

theorem finishChar_leavesFmt (x : RxChar) (spoiled : Bool) : LeavesFmt (finishChar x spoiled) := fun s => by
  unfold finishChar
  split
  · exact arrive_leavesFmt x _
  · rfl

theorem characterFinished_leavesFmt : LeavesFmt characterFinished := fun s => by
  unfold characterFinished
  split
  · split
    · unfold lastCentre
      dsimp only
      split
      · rfl
      · exact finishChar_leavesFmt _ _ _
    · rfl
  · split
    · exact finishChar_leavesFmt _ _ _
    · rfl
  · rfl

theorem centreReached_leavesFmt : LeavesFmt centreReached := fun s => by
  unfold centreReached
  repeat' split
  all_goals rfl

theorem breakWatchEnd_leavesFmt : LeavesFmt breakWatchEnd := fun s => by
  unfold breakWatchEnd breakReceived
  dsimp only
  repeat' split
  all_goals rfl

theorem crossing_leavesFmt (t : Nat) : LeavesFmt (crossing t) := fun s => by
  unfold crossing
  dsimp only
  split <;> rfl

theorem inputCrossing_leavesFmt (dt : Micros) : LeavesFmt (inputCrossing dt) := fun s => by
  unfold inputCrossing ownCrossing
  split
  · split
    · rfl
    · exact crossing_leavesFmt _ _
  · exact crossing_leavesFmt _ _

theorem framerTake_leavesFmt : LeavesFmt framerTake := fun s => by
  unfold framerTake
  repeat' split
  all_goals rfl

theorem cellBoundary_leavesFmt : LeavesFmt cellBoundary := fun s => by
  unfold cellBoundary
  repeat' split
  all_goals rfl

theorem framerCharacterEnd_leavesFmt : LeavesFmt framerCharacterEnd := fun s => by
  unfold framerCharacterEnd characterEnd
  split
  · split
    · dsimp only
      split
      · exact arrive_leavesFmt _ _
      · rfl
    · rfl
  · rfl

theorem onPresent_leavesFmt : LeavesFmt onPresent := fun s => by
  unfold onPresent
  split
  · exact changeConn_leavesFmt _ s
  · exact changeConn_leavesFmt _ s
  · exact changeConn_leavesFmt _ s
  all_goals rfl

theorem onAbsent_leavesFmt : LeavesFmt onAbsent := fun s => by
  unfold onAbsent
  split
  · exact changeConn_leavesFmt _ s
  all_goals rfl

theorem endWindow_leavesFmt : LeavesFmt endWindow := fun s => by
  unfold endWindow
  dsimp only
  split
  · rfl
  · exact onPresent_leavesFmt _
  · exact onAbsent_leavesFmt _

theorem endSettleTimer_leavesFmt : LeavesFmt endSettleTimer := fun s => by
  unfold endSettleTimer
  split <;> exact changeConn_leavesFmt _ s

theorem closeCall_leavesFmt : LeavesFmt closeCall := fun s => by
  unfold closeCall
  split
  · exact changeConn_leavesFmt _ s
  · exact changeConn_leavesFmt _ s
  · exact enterIdle_leavesFmt s
  · exact enterIdle_leavesFmt s
  · exact enterIdle_leavesFmt s
  all_goals rfl

theorem setLoop_fmt (loop : LoopMode) (s : State) : ∀ t ∈ setLoop loop s, t.fmt = s.fmt := by
  unfold setLoop
  split
  · rintro _ ⟨rfl⟩; exact changeConn_leavesFmt _ _
  · rintro _ ⟨rfl⟩; exact changeConn_leavesFmt _ _
  · rintro _ ⟨rfl⟩; exact enterIdle_leavesFmt _
  · rintro _ ⟨rfl⟩; rfl
  · rintro _ ⟨rfl⟩; rfl
  · rintro _ ⟨rfl⟩; rfl
  · rintro _ ⟨rfl⟩; rfl
  · simp

theorem setFlow_leavesFmt (x : FlowSettings) : LeavesFmt (setFlow x) := fun s => by
  unfold setFlow
  dsimp only
  split_ifs
  · rfl
  · exact judgeHold_leavesFmt _
  · unfold turnFlowOff
    dsimp only
    split <;> rfl

/-! ### Commands and frames -/

/-- R180: a command refused at its judgement changes nothing. -/
theorem answer_leavesFmt {α : Type} (kind : Byte) (read : Except Reason α) {act : α → State → State × Reply}
    (h : ∀ x, LeavesFmt fun s => (act x s).1) : LeavesFmt fun s => (answer kind read act s).1 := fun s => by
  cases read with
  | error reason => rfl
  | ok x => exact h x s

theorem setHead_leavesFmt (p : List Byte) : LeavesFmt fun s => (actSetHead p s).1 := fun s =>
  answer_leavesFmt 0x08 (judgeHead p s) (act := fun x s => (configureHead x.1 s, doneOr 0x08 x.2))
    (fun _ _ => beginRow_leavesFmt _) s

theorem connect_leavesFmt (p : List Byte) : LeavesFmt fun s => (actConnect p s).1 :=
  answer_leavesFmt _ _ fun role s => by
    dsimp only
    split
    · exact changeConn_leavesFmt _ _
    · rfl

theorem break_leavesFmt (p : List Byte) : LeavesFmt fun s => (actBreak p s).1 :=
  answer_leavesFmt _ _ fun _ s => by
    dsimp only
    split <;> rfl

theorem setLine_leavesFmt (p : List Byte) : LeavesFmt fun s => (actSetLine p s).1 :=
  answer_leavesFmt _ _ fun x s => by
    dsimp only
    split <;> rfl

theorem setLoop_leavesFmt (p : List Byte) : LeavesFmt fun s => (actSetLoop p s).1 :=
  answer_leavesFmt _ _ fun loop s => by
    dsimp only
    split
    · next t ht => exact setLoop_fmt loop s t ht
    · rfl

theorem checkStqRoom_leavesFmt : LeavesFmt checkStqRoom := fun s => by
  unfold checkStqRoom
  split <;> rfl

theorem complete_leavesFmt (kind : Byte) (p : List Byte) {act : State → State × Reply}
    (hact : LeavesFmt fun s => (act s).1) : LeavesFmt (complete kind p act) := fun s => by
  rcases complete_cases (kind := kind) (p := p) act s with e | e | ⟨-, e⟩ <;> rw [e]
  · rfl
  · exact hact _

theorem rejectUnknown_leavesFmt (kind : Byte) (p : List Byte) : LeavesFmt (rejectUnknown kind p) := fun s => by
  unfold rejectUnknown
  split
  · rfl
  · exact complete_leavesFmt kind p (fun _ => rfl) s

theorem rejectCheck_leavesFmt (kind : Byte) (p : List Byte) (check : Byte) : LeavesFmt (rejectCheck kind p check) := fun s => by
  unfold rejectCheck
  split
  · rfl
  · exact complete_leavesFmt kind p (fun _ => rfl) s

theorem countStray_leavesFmt (b : Byte) : LeavesFmt (countStray b) := fun s => by
  unfold countStray; repeat' split
  all_goals rfl

theorem openFrame_leavesFmt : LeavesFmt openFrame := fun s => by
  unfold openFrame; split <;> rfl

theorem longLength_leavesFmt (b : Byte) : LeavesFmt (longLength b) := fun s => by
  unfold longLength endByLength; repeat' split
  all_goals rfl

theorem endUnready_leavesFmt : LeavesFmt endUnready := fun s => by
  unfold endUnready; repeat' split
  all_goals rfl

theorem tearFrame_leavesFmt : LeavesFmt tearFrame := fun s => by
  unfold tearFrame; split <;> rfl

theorem collectByte_leavesFmt (b : Byte) : LeavesFmt (collectByte b) := fun s => by
  unfold collectByte; repeat' split
  all_goals rfl

/-! ### The records that commands place (R81, R85, R90) -/

/-- R85: stops in strictly ascending order. -/
theorem pairwise_of_ascending {ts : List Byte} (h : ascending ts = true) : (ts.map BitVec.toNat).Pairwise (· < ·) := by
  rw [← List.isChain_iff_pairwise]
  induction ts with
  | nil => exact .nil
  | cons a rest ih =>
    cases rest with
    | nil => exact .singleton _
    | cons b more =>
      simp only [ascending, Bool.and_eq_true, decide_eq_true_eq] at h
      exact .cons_cons h.1 (ih h.2)

/-- R85: stops clamped to 39, those made alike kept once. -/
theorem clampTabs_ok {ts : List Byte} (hlen : ts.length ≤ 16) (h : ascending ts = true) :
    (clampTabs ts).length ≤ 16 ∧ (clampTabs ts).Pairwise (· < ·) ∧ ∀ t ∈ clampTabs ts, t ≤ 39 := by
  have hlow : ∀ t ∈ (ts.map BitVec.toNat).filter fun n => decide (n < 39), t < 39 := by simp
  have hsorted := (pairwise_of_ascending h).filter fun n => decide (n < 39)
  have hshort := List.length_filter_le (fun n => decide (n < 39)) (ts.map BitVec.toNat)
  rw [List.length_map] at hshort
  unfold clampTabs
  dsimp only
  split
  · next hany =>
    have hless : ((ts.map BitVec.toNat).filter fun n => decide (n < 39)).length < (ts.map BitVec.toNat).length := by
      rw [List.length_filter_lt_length_iff_exists]
      simpa only [List.any_eq_true, decide_eq_true_eq, not_lt] using hany
    rw [List.length_map] at hless
    refine ⟨by rw [List.length_append, List.length_singleton]; omega, ?_, ?_⟩
    · exact List.pairwise_append.2 ⟨hsorted, List.pairwise_singleton _ _, by simp⟩
    · simp only [List.mem_append, List.mem_singleton]
      rintro t (ht | rfl)
      · exact (hlow t ht).le
      · exact le_rfl
  · exact ⟨by omega, hsorted, fun t ht => (hlow t ht).le⟩

/-- R85: SET FORMAT's fields, judged and clamped, are within their ranges. -/
theorem readFormat_ok {p : List Byte} {fields : FormatFields} {b : Bool} (h : readFormat p = .ok (fields, b)) :
    FieldsOk fields := by
  unfold readFormat at h
  split at h
  · simp at h
  · next r hr =>
    split_ifs at h with hgood
    obtain rfl := (Prod.mk.inj (Except.ok.inj h)).1
    simp only [Bool.and_eq_true] at hgood
    obtain ⟨⟨-, hmargins⟩, htabs⟩ := hgood
    refine ⟨?_, ?_, ?_, ?_, ?_, ?_, ?_⟩ <;> simp only [Option.mem_map, forall_exists_index, and_imp, forall_apply_eq_imp_iff₂]
    · exact fun a _ => Nat.min_le_left _ _
    · exact fun a _ => Nat.min_le_left _ _
    · exact fun a _ => Nat.min_le_left _ _
    · intro a ha c hc
      rw [Option.mem_def.1 ha, Option.mem_def.1 hc] at hmargins
      simp only [marginsGood, decide_eq_true_eq] at hmargins
      omega
    · intro ts hts
      rw [Option.mem_def.1 hts] at htabs
      simp only [tabsGood, Bool.and_eq_true, decide_eq_true_eq] at htabs
      exact clampTabs_ok htabs.1 htabs.2
    · exact fun a _ => Nat.le_of_lt_succ a.isLt
    · intro n _
      unfold clampDelay
      split
      · exact .inl rfl
      · exact .inr (clampNat_bounds (by decide) n)

/-- A command's effect keeps the formatter sound. -/
def ActSound (act : State → State × Reply) : Prop := ∀ s, FormatterSound s.fmt → FormatterSound (act s).1.fmt

theorem answer_sound {α : Type} (kind : Byte) (read : Except Reason α) {act : α → State → State × Reply}
    (h : ∀ x, read = .ok x → ActSound (act x)) : ActSound (answer kind read act) := fun s hs => by
  cases hr : read with
  | error reason => exact hs
  | ok x => exact h x hr s hs

theorem printText_sound (p : List Byte) : ActSound (actPrintText p) :=
  answer_sound _ _ fun codes _ s hs => by
    refine { hs with items := fun it hit => ?_ }
    rcases List.mem_append.1 hit with hit | hit
    · exact hs.items it hit
    · obtain ⟨c, -, rfl⟩ := List.mem_map.1 hit
      exact char_ok c

theorem placeDirective_sound (kind : Byte) (b : Bool) {d : Directive} (hd : ItemOk (.directive d)) :
    ActSound (placeDirective kind b d) := fun s hs => by
  unfold placeDirective
  split
  · exact { hs with }
  · refine { hs with items := fun it hit => ?_ }
    rcases List.mem_append.1 hit with hit | hit
    · exact hs.items it hit
    · exact List.mem_singleton.1 hit ▸ hd

theorem saveFormat_ok : ItemOk (.directive .saveFormat) := ⟨nofun, nofun⟩

theorem restoreFormat_ok : ItemOk (.directive .restoreFormat) := ⟨nofun, nofun⟩

theorem setFormat_sound (p : List Byte) : ActSound (actSetFormat p) :=
  answer_sound _ _ fun x hx => placeDirective_sound _ _ ⟨by rintro _ ⟨rfl⟩; exact readFormat_ok hx, nofun⟩

theorem feed_sound (p : List Byte) : ActSound (actFeed p) := by
  refine answer_sound _ _ fun x hx => placeDirective_sound _ _ ⟨nofun, ?_⟩
  unfold readFeed at hx
  split at hx
  · obtain rfl := Except.ok.inj hx
    rintro n ⟨rfl⟩
    omega
  · simp at hx

theorem loadGlyph_sound (p : List Byte) : ActSound (actLoadGlyph p) := answer_sound _ _ fun _ _ _ hs => { hs with }

theorem clearQueue_sound (p : List Byte) : ActSound (actClearQueue p) :=
  answer_sound _ _ fun q _ s hs => by
    cases q with
    | stq =>
      show FormatterSound (checkStqRoom _).fmt
      rwa [checkStqRoom_leavesFmt]
    | ptq => exact checkPtqRoom_sound (s := { s with fmt := { s.fmt with ptq := [] } }) { hs with items := nofun }
    | key => exact hs

/-! ### The keyboard -/

theorem offerKey_leavesFmt (x : KeyChar) : LeavesFmt (offerKey x) := fun s => by
  unfold offerKey
  split <;> rfl

/-- R48, R146: an entry acts; a FEED action fills the key feed record. -/
theorem actEntry_sound (h : FormatterSound s.fmt) (e : KeyEntry) : FormatterSound (actEntry e s).fmt := by
  unfold actEntry keyAction
  split
  · rwa [offerKey_leavesFmt]
  · split
    · split
      · exact h
      · exact h
    · exact { h with }
    · unfold togglePause
      rwa [judgeHold_leavesFmt]
  · exact h
  · exact h

theorem keyDown_sound (p : Nat) (h : FormatterSound s.fmt) : FormatterSound (keyDown p s).fmt := by
  unfold keyDown
  split
  · exact h
  · split
    · exact h
    · refine actEntry_sound ?_ _
      exact h

theorem scanReading_sound (h : FormatterSound s.fmt) (closed : List Nat) : FormatterSound (scanReading closed s).fmt := by
  unfold scanReading
  dsimp only
  split
  · exact h
  · exact foldl_keeps (P := fun t : State => FormatterSound t.fmt) (fun t p ht => keyDown_sound p ht) _ _ h

theorem endRepeat_leavesFmt : LeavesFmt endRepeat := fun s => by
  unfold endRepeat
  dsimp only
  split
  · split
    · exact offerKey_leavesFmt _ _
    · rfl
  · rfl

/-! ### Resets and rows -/

theorem endFrame_sound (h : FormatterSound s.fmt) : FormatterSound (endFrame s).fmt := by
  unfold endFrame endTxFrame
  split
  · exact h
  · dsimp only
    split
    · exact .reset
    · exact h

theorem resetMoment_leavesFmt (dt : Micros) : LeavesFmt (resetMoment dt) := fun s => by
  unfold resetMoment
  split <;> rfl

section
variable {t : State}

theorem row_sound {f : State → State} (h : FormatterSound s.fmt) (e : row f s = .next t) (hf : FormatterSound (f s).fmt) :
    FormatterSound t.fmt :=
  row_keeps (P := fun t => FormatterSound t.fmt) (fun _ => settleRow_sound) h hf e

theorem row_leaves {f g : State → State} {u : State} (hg : LeavesFmt g) (h : FormatterSound s.fmt) (e : row f s = .next t)
    (hf : f s = g u := by rfl) (hu : u.fmt = s.fmt := by rfl) : FormatterSound t.fmt :=
  row_sound h e (by rw [hf, hg, hu]; exact h)

theorem timerRow_sound {timer : State → Timer} {f : State → State} (h : FormatterSound s.fmt)
    (e : timerRow timer f s = .next t) (hf : ∀ u, FormatterSound u.fmt → FormatterSound (f u).fmt) : FormatterSound t.fmt :=
  timerRow_keeps (P := fun t => FormatterSound t.fmt) (fun _ => settleRow_sound) h (fun _ _ => hf _ h) e

theorem timerRow_leaves {timer : State → Timer} {f : State → State} (hf : LeavesFmt f) (h : FormatterSound s.fmt)
    (e : timerRow timer f s = .next t) : FormatterSound t.fmt :=
  timerRow_sound h e fun u hu => by rwa [hf]

theorem commandRow_sound {act : State → State × Reply} (hact : ActSound act) {kind : Byte} {dt : Micros} {p : List Byte}
    (h : FormatterSound s.fmt) (e : commandRow kind dt p act s = .next t) : FormatterSound t.fmt := by
  refine row_sound h e ?_
  rcases complete_cases (kind := kind) (p := p) (s := after dt s) act with e | e | ⟨-, e⟩ <;> rw [e]
  · exact h
  · exact h
  · exact hact _ h

theorem commandRow_leaves {act : State → State × Reply} (hact : LeavesFmt fun s => (act s).1) {kind : Byte} {dt : Micros}
    {p : List Byte} (h : FormatterSound s.fmt) (e : commandRow kind dt p act s = .next t) : FormatterSound t.fmt :=
  commandRow_sound (fun u hu => by rwa [show (act u).1.fmt = u.fmt from hact u]) h e

/-- Every row keeps the formatter sound. -/
theorem exec_sound (i : Instr) (h : FormatterSound s.fmt) (e : exec i s = .next t) : FormatterSound t.fmt := by
  cases i <;> dsimp only [exec] at e
  case identify dt p => exact commandRow_leaves (answer_leavesFmt _ _ fun _ _ => rfl) h e
  case restart dt p => exact commandRow_leaves (answer_leavesFmt _ _ fun _ _ => rfl) h e
  case readConditions dt p => exact commandRow_leaves (answer_leavesFmt _ _ fun _ _ => rfl) h e
  case readStatus dt p => exact commandRow_leaves (answer_leavesFmt _ _ fun _ _ => rfl) h e
  case setReports dt p => exact commandRow_leaves (answer_leavesFmt _ _ fun _ _ => rfl) h e
  case setHead dt p => exact commandRow_leaves (setHead_leavesFmt p) h e
  case setDensity dt p => exact commandRow_leaves (answer_leavesFmt _ _ fun _ _ => rfl) h e
  case printText dt p => exact commandRow_sound (printText_sound p) h e
  case setFormat dt p => exact commandRow_sound (setFormat_sound p) h e
  case saveFormat dt p => exact commandRow_sound (answer_sound _ _ fun _ _ => placeDirective_sound _ _ saveFormat_ok) h e
  case restoreFormat dt p => exact commandRow_sound (answer_sound _ _ fun _ _ => placeDirective_sound _ _ restoreFormat_ok) h e
  case feed dt p => exact commandRow_sound (feed_sound p) h e
  case loadGlyph dt p => exact commandRow_sound (loadGlyph_sound p) h e
  case setLine dt p => exact commandRow_leaves (setLine_leavesFmt p) h e
  case setCarrier dt p => exact commandRow_leaves (answer_leavesFmt _ _ fun _ _ => rfl) h e
  case connect dt p => exact commandRow_leaves (connect_leavesFmt p) h e
  case disconnect dt p => exact commandRow_leaves (answer_leavesFmt _ _ fun _ => closeCall_leavesFmt) h e
  case sendBreak dt p => exact commandRow_leaves (break_leavesFmt p) h e
  case setLoop dt p => exact commandRow_leaves (setLoop_leavesFmt p) h e
  case setKeys dt p => exact commandRow_leaves (answer_leavesFmt _ _ fun _ _ => rfl) h e
  case loadKeymap dt p => exact commandRow_leaves (answer_leavesFmt _ _ fun _ _ => rfl) h e
  case sendText dt p => exact commandRow_leaves (answer_leavesFmt _ _ fun _ _ => rfl) h e
  case setRoutes dt p => exact commandRow_leaves (answer_leavesFmt _ _ fun _ _ => rfl) h e
  case setFlow dt p => exact commandRow_leaves (answer_leavesFmt _ _ fun x => setFlow_leavesFmt x.1) h e
  case clearQueue dt p => exact commandRow_sound (clearQueue_sound p) h e
  case unknownKindFrame dt kind p => exact row_leaves (rejectUnknown_leavesFmt kind p) h e
  case strayByte dt b => exact row_leaves (countStray_leavesFmt b) h e
  case leadByte dt => exact row_leaves openFrame_leavesFmt h e
  case lengthByteAbove40 dt b => exact row_leaves (longLength_leavesFmt b) h e
  case unreadyFrame dt => exact row_leaves endUnready_leavesFmt h e
  case gapTimerExpiry => exact timerRow_leaves tearFrame_leavesFmt h e
  case linkFrameEnd => exact timerRow_sound h e fun _ => endFrame_sound
  case powerUpReset dt => exact Host.Outcome.next.inj e ▸ .reset
  case generalResetFromPin dt => exact Host.Outcome.next.inj e ▸ .reset
  case resetEnd dt =>
    unfold execResetEnd at e
    split at e <;> obtain rfl := Host.Outcome.next.inj e
    · exact h
    · refine settleRow_sound ?_
      show FormatterSound (resetMoment dt s).fmt
      rwa [resetMoment_leavesFmt]
  case energizingTimerExpiry => exact timerRow_leaves (f := endEnergizing) (fun _ => proceed_leavesFmt _) h e
  case holdTimerExpiry => exact timerRow_leaves (f := endHold) (fun _ => rfl) h e
  case loadingEnd => exact timerRow_leaves (forPhase_leavesFmt (f := endLoading) fun _ _ => rfl) h e
  case pulseEnd => exact timerRow_leaves (forPhase_leavesFmt endPulse_leavesFmt) h e
  case stepEnd => exact timerRow_leaves endStep_leavesFmt h e
  case settlePeriodEnd => exact timerRow_leaves endSettle_leavesFmt h e
  case paperSensorChange dt =>
    unfold execPaperSensorChange at e
    split at e
    · exact Host.Outcome.next.inj e ▸ h
    · exact row_sound h e h
  case paperPresentTimerExpiry => exact timerRow_leaves (f := endPaperTimer) (fun _ => removeReasons_leavesFmt _ _) h e
  case converterReading code => exact timerRow_leaves (endConversion_leavesFmt code) h e
  case formatterTakeItem => exact row_sound h e (formatterTake_sound h)
  case lapseTimerExpiry => exact timerRow_sound h e fun _ => endLapse_sound
  case flushTimerExpiry => exact timerRow_sound h e fun _ => endFlushTimer_sound
  case drainCommit => exact row_sound h e (drainCommit_sound h)
  case formFeedEntryAppend => exact row_sound h e (formFeedAppend_sound h)
  case feedEntryAppend => exact row_sound h e (feedAppend_sound h)
  case halfPeriodEnd dt => exact row_leaves (inputCrossing_leavesFmt dt) h e
  case characterFinished => exact row_leaves characterFinished_leavesFmt h e
  case breakWatchEnd => exact row_leaves breakWatchEnd_leavesFmt h e
  case framerTake => exact row_leaves framerTake_leavesFmt h e
  case framerCharacterEnd => exact row_leaves framerCharacterEnd_leavesFmt h e
  case breakTimerExpiry => exact timerRow_leaves (f := endBreak) (fun _ => rfl) h e
  case breakMarkEnd => exact timerRow_leaves (f := endMark) (fun _ => rfl) h e
  case carrierWindowEnd => exact timerRow_leaves endWindow_leavesFmt h e
  case connectTimerExpiry => exact timerRow_leaves (f := endConnectTimer) enterIdle_leavesFmt h e
  case settleTimerExpiry => exact timerRow_leaves endSettleTimer_leavesFmt h e
  case dropoutTimerExpiry => exact timerRow_leaves (f := endDropoutTimer) enterIdle_leavesFmt h e
  case clearingTimerExpiry => exact timerRow_leaves enterIdle_leavesFmt h e
  case remoteHoldTimerExpiry => exact timerRow_leaves (f := endRemoteTimer) (fun _ => rfl) h e
  case routerTake src => exact row_sound h e (takeIfReady_sound h src)
  case scanReading closed => exact timerRow_sound h e fun _ hu => scanReading_sound hu closed
  case repeatTimerExpiry => exact timerRow_leaves endRepeat_leavesFmt h e
  case beeperEndTime => exact timerRow_leaves (f := endBeep) (fun _ => rfl) h e
  case cellCentre => exact row_leaves centreReached_leavesFmt h e
  case cellBoundary => exact row_leaves cellBoundary_leavesFmt h e
  case frameByteReceived dt b => exact row_leaves (collectByte_leavesFmt b) h e
  case wrongCheckByte dt kind p check => exact row_leaves (rejectCheck_leavesFmt kind p check) h e

end

/-- Settles O55: a sound state's formatter is sound, and `exec_sound`. -/
theorem formatterStaysSound : Obligations.FormatterStaysSound := by
  intro s t hs e
  have h := FormatterSound.iff_formatterOk.2 hs.formatter
  refine FormatterSound.iff_formatterOk.1 ?_
  unfold step at e
  split at e
  · exact Host.Outcome.next.inj e ▸ h
  · next i rest hpending =>
    exact exec_sound i (s := { s with pending := rest }) h e

end Sys2Proof.Steps
end

section
/-!
SUPPORT. What the line's owner is offered, and the takes it makes, in the terms of the rules (R46 to R51, R80, R83, R155 to
R166).
-/

namespace Sys2Proof.Steps

open Sys2Proof.Machine Sys2Proof.Safety Sys2Proof.Laws

variable {s : State}

/-! ### Takes (R80, R83, R158) -/

theorem isDraining_iff (f : Formatter) : f.isDraining = true ↔ ∃ d, f.activity = .draining d := by
  cases h : f.activity <;> simp [Formatter.isDraining, h]

theorem not_isDraining {f : Formatter} (h : f.activity = .ready ∨ f.activity = .stalled) : f.isDraining = false := by
  rcases h with h | h <;> simp [Formatter.isDraining, h]

/-- R83: the wanted flag clears at 32 free places, and a SPACE report becomes pending. -/
theorem checkPtqRoom_eq (s : State) :
    checkPtqRoom s =
      let clears := s.fmt.ptqWanted && decide (s.fmt.ptq.length ≤ 32)
      { s with
        fmt := { s.fmt with ptqWanted := s.fmt.ptqWanted && !clears }
        link := { s.link with pendSpace := s.link.pendSpace || (clears && s.link.mask.space) } } := by
  have room : Config.wantedRoom ≤ Config.ptqCap - s.fmt.ptq.length ↔ s.fmt.ptq.length ≤ 32 := by
    show 32 ≤ 64 - s.fmt.ptq.length ↔ _
    omega
  simp only [checkPtqRoom, room]
  cases hc : s.fmt.ptqWanted && decide (s.fmt.ptq.length ≤ 32) with
  | true => simp [LinkPort.pendRoom]
  | false => simp

theorem takePtq_cons {it : Item} {rest : List Item} (h : s.fmt.ptq = it :: rest) :
    takePtq s =
      let clears := s.fmt.ptqWanted && decide (rest.length ≤ 32)
      takeItem .ptq it { s with
        fmt := { s.fmt with ptq := rest, ptqWanted := s.fmt.ptqWanted && !clears }
        link := { s.link with pendSpace := s.link.pendSpace || (clears && s.link.mask.space) } } := by
  simp only [takePtq, h]
  rw [checkPtqRoom_eq]

/-- R165: the same of the send text queue. -/
theorem checkStqRoom_eq (s : State) :
    checkStqRoom s =
      let clears := s.router.stqWanted && decide (s.router.stq.length ≤ 32)
      { s with
        router := { s.router with stqWanted := s.router.stqWanted && !clears }
        link := { s.link with pendSpace := s.link.pendSpace || (clears && s.link.mask.space) } } := by
  have room : Config.wantedRoom ≤ Config.stqCap - s.router.stq.length ↔ s.router.stq.length ≤ 32 := by
    show 32 ≤ 64 - s.router.stq.length ↔ _
    omega
  simp only [checkStqRoom, room]
  cases hc : s.router.stqWanted && decide (s.router.stq.length ≤ 32) with
  | true => simp [LinkPort.pendRoom]
  | false => simp

theorem judgeHold_holds (h : (holdJudged s && holdWanted s && !s.router.holdSent) = true) :
    judgeHold s = { s with router := s.router.sendHold, link := s.link.pendLine } := if_pos h

theorem judgeHold_resumes (h : ¬ (holdJudged s && holdWanted s && !s.router.holdSent) = true)
    (h' : (holdJudged s && holdUnwanted s && s.router.holdSent) = true) :
    judgeHold s = { s with router := s.router.sendResume, link := s.link.pendLine } := (if_neg h).trans (if_pos h')

theorem judgeHold_stands (h : ¬ (holdJudged s && holdWanted s && !s.router.holdSent) = true)
    (h' : ¬ (holdJudged s && holdUnwanted s && s.router.holdSent) = true) : judgeHold s = s := (if_neg h).trans (if_neg h')

/-- R170: local hold is not judged by the transmit queue or the RXDATA queue. -/
theorem judgeHold_queues (tx rx : List Byte) (s : State) :
    judgeHold { s with router := { s.router with txQueue := tx, rxData := rx } }
      = { judgeHold s with router := { (judgeHold s).router with txQueue := tx, rxData := rx } } := by
  let t : State := { s with router := { s.router with txQueue := tx, rxData := rx } }
  by_cases hhold : (holdJudged s && holdWanted s && !s.router.holdSent) = true
  · rw [judgeHold_holds hhold]
    exact judgeHold_holds (s := t) hhold
  · by_cases hresume : (holdJudged s && holdUnwanted s && s.router.holdSent) = true
    · rw [judgeHold_resumes hhold hresume]
      exact judgeHold_resumes (s := t) hhold hresume
    · rw [judgeHold_stands hhold hresume]
      exact judgeHold_stands (s := t) hhold hresume

/-- R158, R170: a received character leaves the store and joins its queues, and local hold is judged. -/
theorem deliverQueues_rx (x : SinkSet) (c : KeyChar) (s : State) :
    deliverQueues .rx x c (removeHead .rx s) = judgeHold { s with router := { s.router with
      store := s.router.store.tail
      txQueue := if x.line then s.router.txQueue ++ [c.code] else s.router.txQueue
      rxData := if x.link then s.router.rxData ++ [c.code] else s.router.rxData } } := by
  let t : State := { s with router := { s.router with store := s.router.store.tail } }
  obtain ⟨held, slot, link, hjudge⟩ := judgeHold_touches t
  have hqueues := fun tx rx => judgeHold_queues tx rx t
  refine Eq.trans ?_ (hqueues _ _).symm
  show deliverQueues .rx x c (judgeHold t) = _
  rw [hjudge]
  obtain ⟨line, print, link⟩ := x
  cases line <;> cases link <;> rfl

/-- R158: the take of a source, in one update. -/
theorem takeSource_eq_sourceTaken (src : Source) (s : State) : takeSource src s = sourceTaken src s := by
  cases src with
  | rx =>
    cases hq : s.router.store with
    | nil => simp [takeSource, sourceTaken, headCode, hq]
    | cons c rest =>
      simp only [takeSource, sourceTaken, headCode, hq, List.head?_cons, Option.map_some, deliverQueues_rx, List.tail_cons]
      rfl
  | key =>
    cases hq : s.keys.queue with
    | nil => simp [takeSource, sourceTaken, headCode, hq]
    | cons c rest =>
      simp only [takeSource, sourceTaken, headCode, hq, List.head?_cons, Option.map_some, deliverQueues, removeHead, headRepeated,
        List.tail_cons, Option.getD_some, Router.toLink]
      cases (sinksOf .key s).link <;> cases (sinksOf .key s).line <;> rfl
  | stq =>
    cases hq : s.router.stq with
    | nil => simp [takeSource, sourceTaken, headCode, hq]
    | cons c rest =>
      simp only [takeSource, sourceTaken, headCode, hq, List.head?_cons, deliverQueues, removeHead, checkStqRoom_eq,
        List.tail_cons, Router.toLink, ite_self]
      cases (sinksOf .stq s).line <;> rfl

/-! ### Contention (R49, R155, R157, R162, R163) -/

/-- R155: LINE is present. -/
abbrev LineThere (s : State) : Prop := OpenCall s ∨ s.conn.state = .test

/-- R155, R162: LINE has a free place. -/
abbrev LinePlace (s : State) : Prop := LineThere s ∧ s.router.txQueue.length < 8

/-- R49: RX contends. -/
abbrev RxContends (s : State) : Prop :=
  s.router.store ≠ [] ∧ s.router.rxRoute.print = true ∧ s.router.rxRoute.line = false
    ∧ (s.router.rxRoute.link = true → s.router.rxData.length < 32)

/-- R155, R166: the KEYDATA queue has a place for KEY, where its route names LINK. -/
abbrev KeyLinkFree (s : State) : Prop := s.router.keyRoute.link = true → s.router.keyData.length < 16

/-- R49, R157: KEY contends with a key. -/
abbrev KeyContends (s : State) : Prop :=
  s.keys.queue ≠ [] ∧ (s.router.keyRoute.print = true ∨ (s.router.keyRoute.line = true ∧ ¬ LineThere s))
    ∧ (s.router.keyRoute.line = true → LineThere s → LinePlace s) ∧ KeyLinkFree s

/-- R163: KEY is ready apart from its place of the transmit queue (log 23). -/
abbrev KeyWants (s : State) : Prop :=
  s.router.keyRoute.line = true ∧ LineThere s ∧ KeyLinkFree s ∧ ∃ c rest, s.keys.queue = c :: rest
    ∧ (s.router.keyRoute.print = true → s.fmt.keyFeed = false ∧ (∀ d, s.fmt.activity ≠ .draining d)
      ∧ (s.fmt.owner = .key ∨ (s.fmt.owner = .none ∧ KeyContends s ∧ ¬ RxContends s))
      ∧ (s.fmt.needsRoom (.char c.code) = true → s.head.queue.length + 12 ≤ 32))

/-- R49: STQ contends. -/
abbrev StqContends (s : State) : Prop :=
  s.router.stq ≠ [] ∧ s.router.stqRoute.print = true ∧ s.router.stqRoute.link = false
    ∧ (s.router.stqRoute.line = true → LinePlace s ∧ ¬ KeyWants s)

theorem linePresent_iff (s : State) : linePresent s.conn = true ↔ LineThere s := by simp [linePresent_eq]

theorem linePlace_iff (s : State) : linePlace s = true ↔ LinePlace s := by
  simp only [linePlace, Bool.and_eq_true, decide_eq_true_eq, linePresent_iff]

theorem sinksOf_present (src : Source) (h : LineThere s) : sinksOf src s = s.router.route src :=
  if_pos ((linePresent_iff s).2 h)

theorem sinksOf_rx (s : State) : sinksOf .rx s = s.router.rxRoute := ite_self _

theorem rxContends_iff (s : State) : rxContends s = true ↔ RxContends s := by
  unfold rxContends RxContends
  rw [sinksOf_rx]
  cases hq : s.router.store with
  | nil => simp [headCode, hq]
  | cons c rest => simp [headCode, hq, linkAccepts]; grind

/-- R157: KEY's set with LINE absent has PRINT in its place. -/
theorem sinksOf_key (s : State) :
    ((sinksOf .key s).print = true ↔ s.router.keyRoute.print = true ∨ (s.router.keyRoute.line = true ∧ ¬ LineThere s))
      ∧ ((sinksOf .key s).line = true ↔ s.router.keyRoute.line = true ∧ LineThere s)
      ∧ (sinksOf .key s).link = s.router.keyRoute.link := by
  by_cases h : LineThere s
  · rw [sinksOf_present _ h]
    simp [Router.route, h]
  · have hp : ¬ linePresent s.conn = true := fun e => h ((linePresent_iff s).1 e)
    simp only [sinksOf, if_neg hp, Router.route]
    by_cases hl : s.router.keyRoute.line = true <;> simp [hl, h]

theorem keyCharContends_iff (s : State) : keyCharContends s = true ↔ s.fmt.keyFeed = false ∧ KeyContends s := by
  obtain ⟨hprint, hline, hlink⟩ := sinksOf_key s
  unfold keyCharContends KeyContends
  simp only [Bool.and_eq_true, Bool.or_eq_true, Bool.not_eq_true', hprint, ← Bool.not_eq_true, hline, hlink, linePlace_iff]
  cases hq : s.keys.queue with
  | nil => simp [headCode, hq]
  | cons c rest => simp [headCode, hq, linkAccepts]; grind

theorem keyContends_iff (s : State) : keyContends s = true ↔ s.fmt.keyFeed = true ∨ KeyContends s := by
  unfold keyContends
  rw [Bool.or_eq_true, keyCharContends_iff]
  cases s.fmt.keyFeed <;> simp

/-- R155: the formatter would take the character, the arbiter granting the line or the source owning it. -/
theorem formatterTakes_iff (o : Owner) (granted : Bool) (c : Byte) (s : State) :
    formatterTakes o granted c s = true ↔ (∀ d, s.fmt.activity ≠ .draining d)
      ∧ (s.fmt.owner = o ∨ (s.fmt.owner = .none ∧ granted = true))
      ∧ (s.fmt.needsRoom (.char c) = true → s.head.queue.length + 12 ≤ 32) := by
  have hdrain : s.fmt.isDraining = false ↔ ∀ d, s.fmt.activity ≠ .draining d := by
    rw [← Bool.not_eq_true, isDraining_iff, not_exists]
  have hroom := hasRoom_iff (.char c) s
  rw [← Bool.not_eq_true, ← imp_iff_not_or] at hroom
  simp only [formatterTakes, Bool.and_eq_true, Bool.or_eq_true, Bool.not_eq_true', decide_eq_true_eq, hdrain, hroom, and_assoc]

theorem keyWantsPlace_iff (s : State) : keyWantsPlace s = true ↔ KeyWants s := by
  obtain ⟨hprint, hline, hlink⟩ := sinksOf_key s
  unfold keyWantsPlace KeyWants
  cases hq : s.keys.queue with
  | nil => simp [headCode, hq]
  | cons c rest =>
    simp only [headCode, hq, List.head?_cons, Option.map_some, Bool.and_eq_true, Bool.or_eq_true, Bool.not_eq_true', hline,
      ← Bool.not_eq_true, hprint, hlink, formatterTakes_iff, keyContends_iff, rxContends_iff, linkAccepts, decide_eq_true_eq]
    grind

theorem stqContends_iff (s : State) : stqContends s = true ↔ StqContends s := by
  unfold stqContends StqContends
  by_cases h : LineThere s
  · rw [sinksOf_present _ h]
    simp only [Router.route, headCode, lineAccepts, Bool.and_eq_true, Bool.or_eq_true, Bool.not_eq_true', linePlace_iff,
      ← Bool.not_eq_true, keyWantsPlace_iff]
    cases hq : s.router.stq with
    | nil => simp
    | cons c rest => simp; grind
  · have hp : ¬ linePresent s.conn = true := fun e => h ((linePresent_iff s).1 e)
    simp only [sinksOf, if_neg hp, Router.route, headCode]
    by_cases hl : s.router.stqRoute.line = true
    · simp [hl, h]
    · cases hq : s.router.stq with
      | nil => simp
      | cons c rest => simp [hl]

/-! ### The owner's next item, grants and stalls (R49 to R51) -/

theorem grant_owned (h : s.fmt.owner ≠ .none ∨ s.fmt.isDraining = true) : grant s = s := by
  refine if_neg ?_
  rcases h with h | h <;> simp [h]

theorem grantee_eq (s : State) : grantee s = if rxContends s then .rx else if keyContends s then .key
    else if stqContends s then .stq else if s.fmt.ptq ≠ [] then .ptq else .none := by
  unfold grantee
  cases s.fmt.ptq <;> rfl

theorem hasRoom_false_iff (it : Item) (s : State) :
    hasRoom it s = false ↔ s.fmt.needsRoom it = true ∧ 20 < s.head.queue.length := by
  have h := hasRoom_iff it s
  rw [← Bool.not_eq_true, h, not_or, Bool.not_eq_false]
  refine and_congr_right fun _ => ?_
  omega

theorem beginStall_elsewhere (h : s.fmt.activity ≠ .ready) : beginStall s = s := if_neg h

theorem beginStall_refused {it : Item} (h : s.fmt.activity = .ready) (hnext : nextItem s = some it)
    (hroom : hasRoom it s = false) :
    beginStall s = { s with fmt := { s.fmt with activity := .stalled, lapse := none, flush := none } } := by
  simp [beginStall, h, hnext, hroom]

/-- R51: a stall begins with an item whose room is not there, and not otherwise. -/
theorem beginStall_cases (s : State) : beginStall s = s ∨ ∃ it, s.fmt.activity = .ready ∧ nextItem s = some it
    ∧ hasRoom it s = false
    ∧ beginStall s = { s with fmt := { s.fmt with activity := .stalled, lapse := none, flush := none } } := by
  by_cases hready : s.fmt.activity = .ready
  · cases hnext : nextItem s with
    | none => exact .inl (by simp [beginStall, hready, hnext])
    | some it =>
      cases hroom : hasRoom it s with
      | true => exact .inl (by simp [beginStall, hready, hnext, hroom])
      | false => exact .inr ⟨it, hready, rfl, hroom, beginStall_refused hready hnext hroom⟩
  · exact .inl (beginStall_elsewhere hready)

theorem endStall_elsewhere (h : s.fmt.activity ≠ .stalled) : endStall s = s := if_neg h

theorem endStall_waits {it : Item} (hnext : nextItem s = some it) (hroom : hasRoom it s = false) : endStall s = s := by
  by_cases h : s.fmt.activity = .stalled
  · obtain ⟨hneeds, -⟩ := (hasRoom_false_iff it s).1 hroom
    simp [endStall, h, hnext, hneeds, hroom]
  · exact endStall_elsewhere h

theorem endStall_takes {it : Item} (h : s.fmt.activity = .stalled) (hnext : nextItem s = some it)
    (hneeds : s.fmt.needsRoom it = true) (hroom : hasRoom it s = true) : endStall s = takeOwned s := by
  simp [endStall, h, hnext, hneeds, hroom]

theorem endStall_leaves (h : s.fmt.activity = .stalled)
    (hitem : nextItem s = none ∨ ∃ it, nextItem s = some it ∧ s.fmt.needsRoom it = false) : endStall s = leaveStall s := by
  rcases hitem with hnone | ⟨it, hnext, hneeds⟩
  · simp [endStall, h, hnone]
  · simp [endStall, h, hnext, hneeds]

/-- R51: what the owner holds at the front, contending or not. -/
def offered (s : State) : Option Item :=
  match s.fmt.owner with
  | .none => none
  | .rx => (headCode .rx s).map .char
  | .key => if s.fmt.keyFeed then some (.char 0x0A) else (headCode .key s).map .char
  | .stq => (headCode .stq s).map .char
  | .ptq => s.fmt.ptq.head?

/-- R51: an item that is offered now is the one the owner holds at the front. -/
theorem offered_of_nextItem {it : Item} (h : nextItem s = some it) : offered s = some it := by
  unfold nextItem at h
  unfold offered
  cases ho : s.fmt.owner <;> rw [ho] at h <;> dsimp only at h ⊢
  case none => exact h
  case rx => split at h <;> [exact h; contradiction]
  case key =>
    split
    · simpa [*] using h
    · rw [if_neg ‹_›] at h
      split at h <;> [exact h; contradiction]
  case stq => split at h <;> [exact h; contradiction]
  case ptq => exact h

end Sys2Proof.Steps
end

section
/-!
O3: what the judgements at the end of a row leave (log 5, log 6).
-/

namespace Sys2Proof.Steps

open Sys2Proof.Machine Sys2Proof.Safety Sys2Proof.Laws

variable {s t : State}

/-- What the end of a row may touch when it takes no character: the tone, the link, the line's owner, the activity and the two
timers of the formatter, and the two queues of the data reports. -/
def QuietEnd (s t : State) : Prop :=
  ∃ g k o a l f rx kd, t = { s with
    tone := g, link := k
    fmt := { s.fmt with owner := o, activity := a, lapse := l, flush := f }
    router := { s.router with rxData := rx, keyData := kd } }

theorem QuietEnd.trans {u : State} (h : QuietEnd s t) (h' : QuietEnd t u) : QuietEnd s u := by
  obtain ⟨g, k, o, a, l, f, rx, kd, rfl⟩ := h
  obtain ⟨g', k', o', a', l', f', rx', kd', rfl⟩ := h'
  exact ⟨g', k', o', a', l', f', rx', kd', rfl⟩

theorem settleTone_quiet (s : State) : QuietEnd s (settleTone s) :=
  ⟨(settleTone s).tone, s.link, s.fmt.owner, s.fmt.activity, s.fmt.lapse, s.fmt.flush, s.router.rxData, s.router.keyData, rfl⟩

theorem grant_quiet (s : State) : QuietEnd s (grant s) := by
  obtain ⟨o, l, e⟩ := grant_touches s
  exact ⟨s.tone, s.link, o, s.fmt.activity, l, s.fmt.flush, s.router.rxData, s.router.keyData, e⟩

theorem beginStall_quiet (s : State) : QuietEnd s (beginStall s) := by
  obtain ⟨a, l, f, e⟩ := beginStall_touches s
  exact ⟨s.tone, s.link, s.fmt.owner, a, l, f, s.router.rxData, s.router.keyData, e⟩

theorem kickLink_quiet (s : State) : QuietEnd s (kickLink s) := by
  obtain ⟨k, rx, kd, e⟩ := kickLink_touches s
  exact ⟨s.tone, k, s.fmt.owner, s.fmt.activity, s.fmt.lapse, s.fmt.flush, rx, kd, e⟩

theorem leaveStall_quiet (s : State) : QuietEnd s (leaveStall s) :=
  ⟨s.tone, s.link, s.fmt.owner, .ready, _, _, s.router.rxData, s.router.keyData, rfl⟩

/-- R51: a stall that has just begun ends in no take: the link's transmitter frees no room in the row queue, and puts no other
item in front. -/
theorem endStall_quiet (h : s.fmt.activity ≠ .stalled) : QuietEnd s (endStall (kickLink (beginStall s))) := by
  obtain ⟨k, rx, kd, hkick⟩ := kickLink_touches (beginStall s)
  have hquiet : QuietEnd s (kickLink (beginStall s)) := (beginStall_quiet s).trans (kickLink_quiet _)
  rcases beginStall_cases s with hno | ⟨it, hready, hnext, hroom, hstall⟩
  · rwa [endStall_elsewhere]
    rwa [hkick, hno]
  · rw [hstall] at hkick
    have hsame : offered (kickLink (beginStall s)) = offered s := by rw [hstall, hkick]; rfl
    have hfull : hasRoom it (kickLink (beginStall s)) = false := by rw [hstall, hkick]; exact hroom
    have hstalled : (kickLink (beginStall s)).fmt.activity = .stalled := by rw [hstall, hkick]
    cases hafter : nextItem (kickLink (beginStall s)) with
    | none =>
      rw [endStall_leaves hstalled (.inl hafter)]
      exact hquiet.trans (leaveStall_quiet _)
    | some it' =>
      have hitem : some it' = some it :=
        (offered_of_nextItem hafter).symm.trans (hsame.trans (offered_of_nextItem hnext))
      obtain rfl := Option.some.inj hitem
      rwa [endStall_waits hafter hfull]

/-- R51: the end of a row takes no character where the formatter was not STALLED. -/
theorem settleRow_quiet (h : s.fmt.activity ≠ .stalled) : QuietEnd s (settleRow s) := by
  have hgrant : (grant (settleTone s)).fmt.activity ≠ .stalled := by
    obtain ⟨o, l, e⟩ := grant_touches (settleTone s)
    rw [e]
    exact h
  show QuietEnd s (beginStall (grant (endStall (kickLink (beginStall (grant (endStall (settleTone s))))))))
  rw [endStall_elsewhere (s := settleTone s) h]
  exact (((settleTone_quiet s).trans (grant_quiet _)).trans (endStall_quiet hgrant)).trans
    ((grant_quiet _).trans (beginStall_quiet _))

/-- Settles O3: `settleRow_touches`, and `settleRow_quiet` where no stall could end. -/
theorem rowEndFrame : Obligations.RowEndFrame := by
  intro s
  refine ⟨rfl, ?_, fun h => ?_⟩
  · obtain ⟨g, r, f, h, u, k, q, b, e⟩ := settleRow_touches s
    simp only [e, and_self]
  · obtain ⟨g, k, o, a, l, f, rx, kd, e⟩ := settleRow_quiet h
    rw [e]
    exact ⟨rfl, rfl, rfl, ⟨o, a, l, f, rfl⟩, rx, kd, rfl⟩

end Sys2Proof.Steps
end

section
/-!
O27 and O28: the owner of the line, its next item, and stalls (R46 to R51, R71, R72).
-/

namespace Sys2Proof.Steps

open Sys2Proof.Machine Sys2Proof.Safety Sys2Proof.Laws

variable {s : State}

theorem formatterTake_ptq {it : Item} {rest : List Item} (hready : s.fmt.activity = .ready) (howner : s.fmt.owner = .ptq)
    (hq : s.fmt.ptq = it :: rest) (hroom : hasRoom it s = true) : formatterTake s = takePtq s := by
  simp [formatterTake, grant_owned (s := s) (by simp [howner]), not_isDraining (.inl hready), howner, hq, hroom]

theorem formatterTake_keyFeed (hready : s.fmt.activity = .ready) (howner : s.fmt.owner = .key) (hfeed : s.fmt.keyFeed = true)
    (hroom : hasRoom (.char 0x0A) s = true) : formatterTake s = takeKeyFeed s := by
  simp only [formatterTake, grant_owned (s := s) (by simp [howner]), not_isDraining (.inl hready), howner, hfeed, hroom,
    Bool.false_eq_true, reduceCtorEq, decide_true, Bool.and_true, if_false, if_true]

/-- Settles O27: `formatterTake_ptq` with `takePtq_cons`, and `formatterTake_keyFeed`. -/
theorem formatterTakesItsItem : Obligations.FormatterTakesItsItem := by
  refine fun s hr hready => ⟨fun it rest howner hq hroom => ?_, fun howner hfeed hroom => ?_⟩
  · rw [formatterTakeItem_running hr, formatterTake_ptq hready howner hq ((hasRoom_iff it s).2 hroom), takePtq_cons hq]
  · rw [formatterTakeItem_running hr, formatterTake_keyFeed hready howner hfeed ((hasRoom_iff _ s).2 hroom)]
    rfl

/-! ### The owner's next item (R51, R155, R161) -/

theorem nextItem_rx (howner : s.fmt.owner = .rx) :
    (¬ RxContends s → nextItem s = none) ∧ ∀ c rest, s.router.store = c :: rest → RxContends s →
      nextItem s = some (.char (if (c.parityBad || c.framingBad) && s.format.substitution then s.format.substitute
        else c.code)) := by
  rw [← rxContends_iff]
  refine ⟨fun h => by simp [nextItem, howner, h], fun c rest hq h => ?_⟩
  simp only [nextItem, howner, h, if_true, headCode, hq]
  rfl

theorem nextItem_key (howner : s.fmt.owner = .key) :
    (s.fmt.keyFeed = true → nextItem s = some (.char 0x0A))
      ∧ (s.fmt.keyFeed = false → ¬ KeyContends s → nextItem s = none)
      ∧ ∀ c rest, s.fmt.keyFeed = false → s.keys.queue = c :: rest → KeyContends s → nextItem s = some (.char c.code) := by
  refine ⟨fun h => by simp [nextItem, howner, h], fun hfeed h => ?_, fun c rest hfeed hq h => ?_⟩
  · have : ¬ keyCharContends s = true := fun e => h ((keyCharContends_iff s).1 e).2
    simp [nextItem, howner, hfeed, this]
  · simp [nextItem, howner, hfeed, (keyCharContends_iff s).2 ⟨hfeed, h⟩, headCode, hq]

theorem nextItem_stq (howner : s.fmt.owner = .stq) :
    (¬ StqContends s → nextItem s = none)
      ∧ ∀ c rest, s.router.stq = c :: rest → StqContends s → nextItem s = some (.char c) := by
  rw [← stqContends_iff]
  refine ⟨fun h => by simp [nextItem, howner, h], fun c rest hq h => ?_⟩
  simp [nextItem, howner, h, headCode, hq]

/-! ### The ends of a stall, and the two timers (R50, R51, R71, R72) -/

theorem takeOwned_source (src : Source) (howner : s.fmt.owner = ownerOf src) (hfeed : src = .key → s.fmt.keyFeed = false) :
    takeOwned s = sourceTaken src s := by
  rw [← takeSource_eq_sourceTaken]
  cases src <;> simp only [ownerOf] at howner <;> simp only [takeOwned, howner]
  case key => simp [hfeed rfl]

theorem leaveStall_owned (howner : s.fmt.owner ≠ .none) :
    leaveStall s = { s with fmt := { s.fmt with
      activity := .ready, lapse := some (s.now + 2000000)
      flush := if s.fmt.flushDelay = 0 then none else some (s.now + 1000 * s.fmt.flushDelay) } } := by
  simp only [leaveStall, if_neg howner]
  rfl

theorem anyInk_iff (f : Formatter) : f.anyInk = true ↔ ∃ l ∈ f.window, l.ink = true := List.any_eq_true

theorem endFlushTimer_inked (h : ∃ l ∈ s.fmt.window, l.ink = true) :
    endFlushTimer s = { s with fmt := { s.fmt with
      activity := .draining (.flush s.fmt.column), lapse := none, flush := none } } :=
  if_pos ((anyInk_iff _).2 h)

theorem endFlushTimer_blank (h : ∀ l ∈ s.fmt.window, l.ink = false) :
    endFlushTimer s = { s with fmt := { s.fmt with flush := none } } :=
  if_neg fun e => by
    obtain ⟨l, hl, hink⟩ := (anyInk_iff _).1 e
    simp [h l hl] at hink

/-- Settles O28: the contention laws and the owner's next item; the cases of a grant and of a stall; the two timers' rows. -/
theorem ownershipAndStalls : Obligations.OwnershipAndStalls := by
  refine ⟨fun s => ?_, fun s => ?_, fun s due hr => ?_⟩
  · exact ⟨rxContends_iff s, keyContends_iff s, keyWantsPlace_iff s, stqContends_iff s, isDraining_iff _,
      fun howner => by simp [nextItem, howner], nextItem_rx, nextItem_key, nextItem_stq,
      fun howner => by simp [nextItem, howner]⟩
  · refine ⟨fun howner hdrain o ho hgrantee => ?_, grant_owned, fun hready it hnext hneeds hfull => ?_,
      fun hstalled it hnext hneeds hfull => ?_, fun hstalled it hnext hneeds hfree => ?_, fun hstalled howner hitem => ?_⟩
    · rw [← grantee_eq] at hgrantee
      subst hgrantee
      simp [grant, howner, hdrain, ho]
    · exact beginStall_refused hready hnext ((hasRoom_false_iff it s).2 ⟨hneeds, hfull⟩)
    · exact endStall_waits hnext ((hasRoom_false_iff it s).2 ⟨hneeds, hfull⟩)
    · have htakes := endStall_takes hstalled hnext hneeds ((hasRoom_iff it s).2 (.inr (by omega)))
      refine ⟨fun rest howner hq => ?_, fun howner hfeed => ?_, fun src howner hfeed => ?_⟩ <;> rw [htakes]
      · simp only [takeOwned, howner, takePtq_cons hq]
      · simp only [takeOwned, howner, hfeed, if_true]
        rfl
      · exact takeOwned_source src howner hfeed
    · rw [endStall_leaves hstalled hitem, leaveStall_owned howner]
  · refine ⟨fun hlapse => ?_, fun hflush hink => ?_, fun hflush hblank => ?_⟩
    · exact lapseTimerExpiry_due hr hlapse
    · rw [flushTimerExpiry_due hr hflush, endFlushTimer_inked (s := atMoment due s) hink]
      rfl
    · rw [flushTimerExpiry_due hr hflush, endFlushTimer_blank (s := atMoment due s) hblank]
      rfl

end Sys2Proof.Steps
end

section
/-!
SUPPORT. What an item leaves: a character or a directive is carried out on the line's new owner, and then the ownership and the
two timers follow (R46, R50, R71).
-/

namespace Sys2Proof.Steps

open Sys2Proof.Machine Sys2Proof.Safety Sys2Proof.Laws

variable {s t u : State} {o : Owner} {c : Byte}

/-- R46: the source owns the line and a stall is over: the state in which an item is carried out. -/
abbrev owned (o : Owner) (s : State) : State := { s with fmt := { s.fmt with owner := o, activity := .ready } }

/-- R71: the flush timer as it is started, unless its delay is 0. -/
abbrev flushFrom (s : State) : Timer := if s.fmt.flushDelay = 0 then none else some (s.now + 1000 * s.fmt.flushDelay)

/-- What an item that is carried out leaves of the moment, the owner, the activity and the flush delay, which the two timers are
started by. -/
structure SameTimers (s t : State) : Prop where
  now : t.now = s.now
  owner : t.fmt.owner = s.fmt.owner
  activity : t.fmt.activity = s.fmt.activity
  delay : t.fmt.flushDelay = s.fmt.flushDelay

theorem SameTimers.trans (h : SameTimers s t) (h' : SameTimers t u) : SameTimers s u :=
  ⟨h'.now.trans h.now, h'.owner.trans h.owner, h'.activity.trans h.activity, h'.delay.trans h.delay⟩

theorem lineAdvance_sameTimers (s : State) : SameTimers s (lineAdvance s) := by
  obtain ⟨w, c, n, hfmt⟩ := lineAdvance_windowed s
  obtain ⟨f, h, u, k, e⟩ := lineAdvance_touches s
  exact ⟨by rw [e], by rw [hfmt]; rfl, by rw [hfmt]; rfl, by rw [hfmt]; rfl⟩

theorem newLine_sameTimers (s : State) : SameTimers s (newLine s) := by
  obtain ⟨hnow, howner, hactivity, hdelay⟩ := lineAdvance_sameTimers (carriageReturn s)
  exact ⟨hnow, howner, hactivity, hdelay⟩

theorem makeFit_sameTimers (s : State) : SameTimers s (makeFit s) := by
  unfold makeFit
  split_ifs
  · exact ⟨rfl, rfl, rfl, rfl⟩
  · exact newLine_sameTimers s
  · exact ⟨rfl, rfl, rfl, rfl⟩

theorem place_sameTimers (b : Byte) (s : State) : SameTimers s { s with fmt := s.fmt.place b } := by
  cases h : s.fmt.layout.double <;> constructor <;> simp only [Formatter.place, h] <;> rfl

theorem putPrintable_sameTimers (c : Byte) (s : State) : SameTimers s (putPrintable c s) :=
  (makeFit_sameTimers s).trans (place_sameTimers _ _)

theorem verticalTab_sameTimers (s : State) : SameTimers s (verticalTab s) := by
  unfold verticalTab
  split <;> exact ⟨rfl, rfl, rfl, rfl⟩

/-! ### The ownership and the timers (R50, R71) -/

/-- R50, R71: an item that keeps the owner restarts both timers. -/
theorem afterItem_keeps (ho : t.fmt.owner ≠ .none) (hready : t.fmt.activity = .ready) :
    afterItem false t = { t with fmt := { t.fmt with lapse := some (t.now + 2000000), flush := flushFrom t } } := by
  simp only [afterItem, not_isDraining (.inl hready), ho]
  rfl

/-- R50, R71: an item that ends ownership stops the lapse timer and starts the flush timer. -/
theorem afterItem_ends (hready : t.fmt.activity = .ready) :
    afterItem true t = { t with fmt := { t.fmt with owner := .none, lapse := none, flush := flushFrom t } } := by
  simp only [afterItem, not_isDraining (.inl hready)]
  rfl

/-- R50, R71: a character that keeps the owner. -/
theorem takeItem_keeps (ho : o ≠ .none) (hends : s.fmt.endsOwnership (.char c) = false) (ht : carryChar c (owned o s) = t)
    (k : SameTimers (owned o s) t) :
    takeItem o (.char c) s = { t with fmt := { t.fmt with
      owner := o, lapse := some (s.now + 2000000), flush := flushFrom s } } := by
  obtain ⟨hnow, howner, hactivity, hdelay⟩ := k
  dsimp only at hnow howner hactivity hdelay
  show afterItem (s.fmt.endsOwnership (.char c)) (carryChar c (owned o s)) = _
  rw [hends, ht, afterItem_keeps (howner.trans_ne ho) hactivity, flushFrom, flushFrom, hnow, hdelay, ← howner]

/-- R50, R71: a character that ends ownership. -/
theorem takeItem_ends (hends : s.fmt.endsOwnership (.char c) = true) (ht : carryChar c (owned o s) = t)
    (k : SameTimers (owned o s) t) :
    takeItem o (.char c) s = { t with fmt := { t.fmt with owner := .none, lapse := none, flush := flushFrom s } } := by
  obtain ⟨hnow, howner, hactivity, hdelay⟩ := k
  dsimp only at hnow howner hactivity hdelay
  show afterItem (s.fmt.endsOwnership (.char c)) (carryChar c (owned o s)) = _
  rw [hends, ht, afterItem_ends hactivity, flushFrom, flushFrom, hnow, hdelay]

end Sys2Proof.Steps
end

section
/-!
O29: the column moves of CR, BS, HT and the mark column (R59, R60, R67).
-/

namespace Sys2Proof.Steps

open Sys2Proof.Machine Sys2Proof.Safety Sys2Proof.Laws

variable {s : State} {o : Owner}

/-- R50, R71: what a move of the cursor leaves when `layout` is the layout after it. -/
def moved (o : Owner) (c : Nat) (layout : Layout) (s : State) : State :=
  { s with fmt := { s.fmt with
    column := c, layout := layout, owner := o, activity := .ready, lapse := some (s.now + 2000000), flush := flushFrom s } }

theorem takeItem_return (ho : o ≠ .none) (s : State) :
    takeItem o (.char 0x0D) s = moved o s.fmt.layout.left s.fmt.layout s :=
  takeItem_keeps ho rfl rfl ⟨rfl, rfl, rfl, rfl⟩

theorem takeItem_backspace (ho : o ≠ .none) (s : State) :
    takeItem o (.char 0x08) s = moved o (max s.fmt.layout.left (s.fmt.column - 1)) s.fmt.layout s :=
  takeItem_keeps ho rfl rfl ⟨rfl, rfl, rfl, rfl⟩

theorem takeItem_tab (ho : o ≠ .none) (s : State) :
    takeItem o (.char 0x09) s = moved o s.fmt.tab.column s.fmt.layout s :=
  takeItem_keeps ho rfl rfl ⟨rfl, rfl, rfl, rfl⟩

theorem takeItem_setMark (ho : o ≠ .none) (s : State) :
    takeItem o (.char 0x12) s = moved o s.fmt.column { s.fmt.layout with mark := min 39 s.fmt.column } s :=
  takeItem_keeps ho rfl rfl ⟨rfl, rfl, rfl, rfl⟩

theorem takeItem_exchange (ho : o ≠ .none) (s : State) :
    takeItem o (.char 0x1D) s
      = moved o (s.fmt.layout.clampColumn s.fmt.layout.mark) { s.fmt.layout with mark := min 39 s.fmt.column } s :=
  takeItem_keeps ho rfl rfl ⟨rfl, rfl, rfl, rfl⟩

/-- R60: HT's column: the first stop to the right of the column and within the right margin, or the right margin. -/
theorem tab_column (f : Formatter) (h : f.layout.tabs.Pairwise (· < ·)) :
    (∀ t ∈ f.layout.tabs, f.column < t → t ≤ f.layout.right → f.tab.column ≤ t)
      ∧ ((f.tab.column ∈ f.layout.tabs ∧ f.column < f.tab.column ∧ f.tab.column ≤ f.layout.right)
        ∨ (f.tab.column = f.layout.right ∧ ∀ t ∈ f.layout.tabs, ¬ (f.column < t ∧ t ≤ f.layout.right))) := by
  simp only [Formatter.tab]
  cases hfind : f.layout.tabs.find? fun t => decide (f.column < t ∧ t ≤ f.layout.right) with
  | none =>
    have hnone : ∀ t ∈ f.layout.tabs, ¬ (f.column < t ∧ t ≤ f.layout.right) := by simpa using hfind
    exact ⟨fun t ht h1 h2 => absurd ⟨h1, h2⟩ (hnone t ht), .inr ⟨rfl, hnone⟩⟩
  | some c =>
    obtain ⟨hc, before, later, htabs, hbefore⟩ := List.find?_eq_some_iff_append.1 hfind
    simp only [decide_eq_true_eq] at hc
    refine ⟨fun t ht h1 h2 => ?_, .inl ⟨htabs ▸ List.mem_append_right _ List.mem_cons_self, hc⟩⟩
    rw [htabs] at h ht
    obtain ⟨-, hlater, -⟩ := List.pairwise_append.1 h
    rcases List.mem_append.1 ht with ht | ht
    · have hno := hbefore t ht
      rw [Bool.not_eq_true', decide_eq_false_iff_not] at hno
      exact absurd ⟨h1, h2⟩ hno
    · rcases List.mem_cons.1 ht with rfl | ht
      · exact le_rfl
      · exact (List.rel_of_pairwise_cons hlater ht).le

theorem min_mark {c : Nat} (h : c ≤ 40) : min 39 c = if c = 40 then 39 else c := by
  split <;> omega

/-- Settles O29: each move by its own equation, HT's column by `tab_column`. -/
theorem columnMoves : Obligations.ColumnMoves := by
  refine ⟨fun s o ho => ?_, fun s o ho hsorted => ?_, fun s o ho hcolumn => ?_⟩
  · rw [takeItem_return ho, takeItem_backspace ho]
    refine ⟨rfl, rfl, fun hpast hmargins => ?_, fun hleft => ?_⟩ <;> simp only [moved] <;> omega
  · obtain ⟨hfirst, hstop⟩ := tab_column s.fmt hsorted
    refine ⟨s.fmt.tab.column, takeItem_tab ho s, hfirst, hstop, fun hnone => ?_, fun hpast => ?_, fun hleft hmargins => ?_⟩
    · rcases hstop with ⟨hmem, -⟩ | ⟨hright, -⟩
      · simp [hnone] at hmem
      · exact hright
    · rcases hstop with ⟨-, hstop⟩ | ⟨hright, -⟩
      · omega
      · exact hright
    · rcases hstop with ⟨-, hstop⟩ | ⟨hright, -⟩ <;> omega
  · rw [takeItem_setMark ho, takeItem_exchange ho, takeItem_exchange ho, min_mark hcolumn]
    refine ⟨rfl, rfl, fun hleft hright hend => ?_⟩
    simp only [moved, Layout.clampColumn]
    split <;> omega

end Sys2Proof.Steps
end

section
/-!
O30: what taking each kind of character leaves (R50, R56, R62, R64 to R66, R68, R71).
-/

namespace Sys2Proof.Steps

open Sys2Proof.Machine Sys2Proof.Safety Sys2Proof.Laws

variable {s : State} {o : Owner} {c : Byte}

theorem isPrintable_iff (c : Byte) : isPrintable c = true ↔ 0x20 ≤ c.toNat := decide_eq_true_iff

/-- R68: the control codes without a meaning. -/
abbrev NoMeaning (c : Byte) : Prop :=
  c.toNat ≤ 0x06 ∨ c = 0x10 ∨ c = 0x11 ∨ (0x13 ≤ c.toNat ∧ c.toNat ≤ 0x1C) ∨ c = 0x1F

theorem not_isPrintable_of_noMeaning (h : NoMeaning c) : ¬ isPrintable c = true := by
  rw [isPrintable_iff]
  rcases h with h | rfl | rfl | h | rfl
  · omega
  · decide
  · decide
  · omega
  · decide

theorem ne_of_noMeaning (h : NoMeaning c) {d : Byte} (hd : ¬ NoMeaning d) : c ≠ d := fun e => hd (e ▸ h)

/-- R68: a control code without a meaning does nothing. -/
theorem carryChar_noMeaning (h : NoMeaning c) (s : State) : carryChar c s = s := by
  have hne {d : Byte} (hd : ¬ NoMeaning d) : c ≠ d := ne_of_noMeaning h hd
  unfold carryChar
  rw [if_neg (not_isPrintable_of_noMeaning h), if_neg (hne (by decide)), if_neg (hne (by decide)), if_neg (hne (by decide)),
    if_neg (hne (by decide)), if_neg (hne (by decide)), if_neg (hne (by decide)), if_neg (hne (by decide)),
    if_neg (hne (by decide)), if_neg (hne (by decide)), if_neg (hne (by decide)), if_neg (hne (by decide)),
    if_neg (hne (by decide))]

/-- R47, R50: the characters that end ownership: LF, NL, FF, and a printable code that wraps. -/
theorem endsOwnership_char (f : Formatter) (c : Byte) :
    f.endsOwnership (.char c) = true ↔ c = 0x0A ∨ c = 0x1E ∨ c = 0x0C ∨ f.wraps c = true := by
  simp only [Formatter.endsOwnership, Formatter.advances, Bool.or_eq_true, Bool.and_eq_true, decide_eq_true_eq]
  tauto

theorem endsOwnership_noMeaning (f : Formatter) (h : NoMeaning c) : f.endsOwnership (.char c) = false := by
  have hno : ¬ f.wraps c = true := by simp [Formatter.wraps, not_isPrintable_of_noMeaning h]
  rw [← Bool.not_eq_true, endsOwnership_char]
  rintro (rfl | rfl | rfl | hwraps)
  · exact absurd h (by decide)
  · exact absurd h (by decide)
  · exact absurd h (by decide)
  · exact hno hwraps

/-- R50, R56: a printable code ends ownership when it wraps. -/
theorem endsOwnership_printable (f : Formatter) (h : 0x20 ≤ c.toNat) :
    f.endsOwnership (.char c) = (f.layout.wrap && !f.fits) := by
  have hne {d : Byte} (hd : d.toNat < 0x20) : c ≠ d := fun e => by rw [e] at h; omega
  rw [Bool.eq_iff_iff, endsOwnership_char]
  rw [or_iff_right (hne (by decide)), or_iff_right (hne (by decide)), or_iff_right (hne (by decide)), Formatter.wraps,
    (isPrintable_iff c).2 h, Bool.true_and]

theorem carryChar_printable (h : 0x20 ≤ c.toNat) (s : State) : carryChar c s = putPrintable c s :=
  if_pos ((isPrintable_iff c).2 h)

theorem setColumn_sameTimers (n : Nat) (s : State) : SameTimers s { s with fmt := { s.fmt with column := n } } :=
  ⟨rfl, rfl, rfl, rfl⟩

theorem beepFrom_eq (b : Option Beep) (t due : Micros) : beepFrom b t due = some (Beep.sound t due b) := by
  cases b <;> rfl

/-- R64: an FF with a form length begins its drain. -/
theorem takeItem_formFeed (o : Owner) (h : 0 < s.fmt.formLength) :
    takeItem o (.char 0x0C) s = { s with fmt := { s.fmt with
      activity := .draining (.formFeed none), owner := .none, lapse := none, flush := none } } := by
  have hends : s.fmt.endsOwnership (.char 0x0C) = true := (endsOwnership_char _ _).2 (.inr (.inr (.inl rfl)))
  have hform : carryChar 0x0C (owned o s) = beginDrain (.formFeed none) (owned o s) := if_neg (Nat.pos_iff_ne_zero.1 h)
  show afterItem (s.fmt.endsOwnership (.char 0x0C)) (carryChar 0x0C (owned o s)) = _
  rw [hends, hform]
  rfl

/-- Settles O30: each character's own part, and what it leaves by `takeItem_keeps` or `takeItem_ends`. -/
theorem charactersAreCarriedOut : Obligations.CharactersAreCarriedOut := by
  intro s o ho
  refine ⟨?_, ?_, fun hform => ?_, takeItem_formFeed o, ?_, ?_, ?_, ?_, fun c hc => ?_, fun c hc => ⟨fun hfits => ?_,
    fun hfits hmargins => ⟨fun hwrap => ?_, fun hwrap => ?_⟩⟩⟩
  · exact takeItem_ends rfl rfl (lineAdvance_sameTimers _)
  · exact takeItem_ends rfl rfl (newLine_sameTimers _)
  · refine takeItem_ends ((endsOwnership_char _ _).2 (.inr (.inr (.inl rfl)))) ?_ (newLine_sameTimers _)
    exact if_pos hform
  · exact takeItem_keeps ho rfl rfl (verticalTab_sameTimers _)
  · rw [beepFrom_eq]
    exact takeItem_keeps ho rfl rfl ⟨rfl, rfl, rfl, rfl⟩
  · exact takeItem_keeps ho rfl rfl ⟨rfl, rfl, rfl, rfl⟩
  · exact takeItem_keeps ho rfl rfl ⟨rfl, rfl, rfl, rfl⟩
  · exact takeItem_keeps ho (endsOwnership_noMeaning _ hc) (carryChar_noMeaning hc _) ⟨rfl, rfl, rfl, rfl⟩
  · exact takeItem_keeps ho (by simp [endsOwnership_printable _ hc, hfits]) (carryChar_printable hc _)
      (putPrintable_sameTimers _ _)
  · refine takeItem_ends (by simp [endsOwnership_printable _ hc, hfits, hwrap]) ?_
      ((newLine_sameTimers _).trans (putPrintable_sameTimers _ _))
    rw [carryChar_printable hc, putPrintable_makeFit (s := owned o s) c hmargins, makeFit_of_wrap (s := owned o s) hfits hwrap]
  · refine takeItem_keeps ho (by simp [endsOwnership_printable _ hc, hwrap]) ?_
      ((setColumn_sameTimers _ _).trans (putPrintable_sameTimers _ _))
    rw [carryChar_printable hc, putPrintable_makeFit (s := owned o s) c hmargins, makeFit_of_noWrap (s := owned o s) hfits hwrap]
    rfl

end Sys2Proof.Steps
end

section
/-!
O26: the directives of the print text queue (R50, R71, R86 to R90).
-/

namespace Sys2Proof.Steps

open Sys2Proof.Machine Sys2Proof.Safety Sys2Proof.Laws

variable {s : State}

/-- R86: the margins a record leaves: one given alone gives way, so that left stays below right. -/
theorem newMargins_eq {f : FormatFields} (h : ∀ l ∈ f.left, ∀ r ∈ f.right, l < r) (l : Layout) :
    newMargins f l =
      (if f.left.isSome ∧ f.right.getD l.right ≤ f.left.getD l.left then f.right.getD l.right - 1 else f.left.getD l.left,
        if f.left = none ∧ f.right.isSome ∧ f.right.getD l.right ≤ f.left.getD l.left then f.left.getD l.left + 1
          else f.right.getD l.right) := by
  unfold newMargins
  cases ha : f.left with
  | none =>
    cases hb : f.right with
    | none => simp
    | some b => by_cases hlt : l.left < b <;> simp [hlt, Nat.not_le.2, Nat.not_lt.1]
  | some a =>
    cases hb : f.right with
    | none => by_cases hlt : a < l.right <;> simp [hlt, Nat.not_le.2, Nat.not_lt.1]
    | some b => simp [h a ha b hb]

/-- R88 to R90: a directive but FEED leaves the moment, the owner and the activity. -/
theorem carryDirective_keeps {d : Directive} (h : ∀ n, d ≠ .feed n) (s : State) :
    (carryDirective d s).now = s.now ∧ (carryDirective d s).fmt.owner = s.fmt.owner
      ∧ (carryDirective d s).fmt.activity = s.fmt.activity := by
  cases d with
  | setFormat f => exact ⟨rfl, rfl, rfl⟩
  | saveFormat => exact ⟨rfl, rfl, rfl⟩
  | restoreFormat =>
    simp only [carryDirective, restoreFormat]
    split <;> exact ⟨rfl, rfl, rfl⟩
  | feed n => exact absurd rfl (h n)

theorem endsOwnership_directive (f : Formatter) {d : Directive} (h : ∀ n, d ≠ .feed n) :
    f.endsOwnership (.directive d) = false := by
  cases d with
  | feed n => exact absurd rfl (h n)
  | setFormat _ | saveFormat | restoreFormat => rfl

/-- R50, R71, R87: a directive but FEED keeps the line for PTQ and restarts both timers. -/
theorem takeItem_directive {d : Directive} (h : ∀ n, d ≠ .feed n) (s : State) :
    let t := carryDirective d (owned .ptq s)
    takeItem .ptq (.directive d) s = { t with fmt := { t.fmt with
      owner := .ptq, activity := .ready, lapse := some (s.now + 2000000)
      flush := if t.fmt.flushDelay = 0 then none else some (s.now + 1000 * t.fmt.flushDelay) } } := by
  intro t
  obtain ⟨hnow, howner, hactivity⟩ := carryDirective_keeps h (owned .ptq s)
  show afterItem (s.fmt.endsOwnership (.directive d)) t = _
  have hptq : t.fmt.owner = .ptq := howner
  have hready : t.fmt.activity = .ready := hactivity
  have hsame : t.now = s.now := hnow
  rw [endsOwnership_directive _ h, afterItem_keeps (by simp [hptq]) hready, flushFrom, hsame, ← hptq, ← hready]

/-- Settles O26: `newMargins_eq`, the stack's cases, and `takeItem_directive`. -/
theorem directivesAreCarriedOut : Obligations.DirectivesAreCarriedOut := by
  refine fun s => ⟨fun f hboth => ?_, rfl, fun top rest hstack => ?_, fun hstack => ?_, fun _ => rfl, fun _ => rfl,
    fun d hd => takeItem_directive hd s, fun _ => rfl⟩
  · simp only [carryDirective, Formatter.setFormat, newMargins_eq hboth, Bool.or_eq_true]
    rfl
  · simp only [carryDirective, restoreFormat, hstack]
    rfl
  · simp only [carryDirective, restoreFormat, hstack]
    rfl

end Sys2Proof.Steps
end

section
/-!
O32: a printable code that fits is placed in its cells (R55, R57, R58).
-/

namespace Sys2Proof.Steps

open Sys2Proof.Machine Sys2Proof.Safety Sys2Proof.Laws

variable {s : State} {l : Line}

theorem getElem?_placeAt (l : Line) (column : Nat) (wide : Wide) (code : Byte) (k : Nat) :
    (l.placeAt column wide code).cells[k]?
      = if column = k then l.cells[k]?.map (Cell.place wide code) else l.cells[k]? := by
  simp only [Line.placeAt, List.getElem?_modify]
  split <;> simp

theorem placeAt_length (l : Line) (column : Nat) (wide : Wide) (code : Byte) :
    (l.placeAt column wide code).cells.length = l.cells.length := List.length_modify _ _ _

/-- R57, R58: a cell of another wide mark is emptied first; a code is held once, and a fourth replaces the newest. -/
theorem place_eq (wide : Wide) (code : Byte) (cell : Cell) :
    cell.place wide code =
      let old := if cell.wide = wide then cell.codes else []
      { wide := wide
        codes := if code ∈ old then old else if old.length < 3 then old ++ [code] else old.take 2 ++ [code] } := by
  simp only [Cell.place, addCode, List.contains_iff_mem]

/-- R55: any code but 20h sets the ink flag and clears the continuation flag. -/
theorem inked_flags (l : Line) (c : Byte) :
    (l.inked (placedCode c)).ink = (l.ink || decide (c ≠ 0x20))
      ∧ (l.inked (placedCode c)).continuation = (l.continuation && decide (c = 0x20)) := by
  have hblank : placedCode c = 0x20 ↔ c = 0x20 := by
    unfold placedCode
    split
    · next h =>
      refine ⟨fun e => absurd e (by decide), ?_⟩
      rintro rfl
      exact absurd h (by decide)
    · rfl
  by_cases hc : c = 0x20
  · have hsame : l.inked (placedCode c) = l := if_pos (hblank.2 hc)
    rw [hsame]
    simp [hc]
  · have hink : l.inked (placedCode c) = { l with ink := true, continuation := false } := if_neg (mt hblank.1 hc)
    simp only [hink, hc, ne_eq, not_false_eq_true, decide_true, decide_false, Bool.or_true, Bool.and_false, and_self]

/-- R57, R58: the line with the code in its cell, or double width in that cell and the next. -/
def placedLine (f : Formatter) (code : Byte) (l : Line) : Line :=
  (if f.layout.double then (l.placeAt f.column .leftHalf code).placeAt (f.column + 1) .rightHalf code
    else l.placeAt f.column .none code).inked code

theorem place_cursor {f : Formatter} (h : f.window[f.cursorLine]? = some l) (code : Byte) :
    f.place code = { f with
      window := f.window.set f.cursorLine (placedLine f code l)
      column := f.column + if f.layout.double then 2 else 1 } := by
  have hcursor : f.cursor = l := by simp [Formatter.cursor, h]
  unfold Formatter.place placedLine
  rw [hcursor]
  cases f.layout.double <;> rfl

theorem placedLine_length (f : Formatter) (code : Byte) (l : Line) :
    (placedLine f code l).cells.length = l.cells.length := by
  unfold placedLine
  rw [inked_cells]
  split
  · rw [placeAt_length, placeAt_length]
  · exact placeAt_length _ _ _ _

theorem placedLine_flags (f : Formatter) (c : Byte) (l : Line) :
    (placedLine f (placedCode c) l).ink = (l.ink || decide (c ≠ 0x20))
      ∧ (placedLine f (placedCode c) l).continuation = (l.continuation && decide (c = 0x20)) := by
  unfold placedLine
  split <;> exact inked_flags _ c

/-- R55, R58: the cells to the left of the column and past the code stand. -/
theorem placedLine_beside (f : Formatter) (code : Byte) (l : Line) {k : Nat}
    (hk : k < f.column ∨ f.column + (if f.layout.double then 2 else 1) ≤ k) :
    (placedLine f code l).cells[k]? = l.cells[k]? := by
  unfold placedLine
  rw [inked_cells]
  split at hk <;> split
  · rw [getElem?_placeAt, if_neg (by omega), getElem?_placeAt, if_neg (by omega)]
  · contradiction
  · contradiction
  · rw [getElem?_placeAt, if_neg (by omega)]

/-- R57, R58: the code is placed in the cell at the column, or double width in that cell and the next. -/
theorem placedLine_here (f : Formatter) (code : Byte) (l : Line) {k : Nat} (hk : k < if f.layout.double then 2 else 1) :
    (placedLine f code l).cells[f.column + k]? = l.cells[f.column + k]?.map
      (Cell.place (if f.layout.double then (if k = 0 then .leftHalf else .rightHalf) else .none) code) := by
  unfold placedLine
  rw [inked_cells]
  cases hd : f.layout.double with
  | true =>
    rw [hd, if_pos rfl] at hk
    obtain rfl | rfl : k = 0 ∨ k = 1 := by omega
    · rw [if_pos rfl, getElem?_placeAt, if_neg (by omega), getElem?_placeAt, if_pos (Nat.add_zero _).symm]
      rfl
    · rw [if_pos rfl, getElem?_placeAt, if_pos rfl, getElem?_placeAt, if_neg (by omega)]
      rfl
  | false =>
    rw [hd, if_neg (by simp)] at hk
    obtain rfl : k = 0 := by omega
    rw [if_neg (by simp), getElem?_placeAt, if_pos (Nat.add_zero _).symm]
    rfl

/-- Settles O32: the line is `placedLine`, and each of its cells stands or is placed by `place_eq`. -/
theorem printablePlacesItsCode : Obligations.PrintablePlacesItsCode := by
  intro s c line hc hfits hline hlen hright double code width
  obtain ⟨hink, hcontinuation⟩ := placedLine_flags s.fmt c line
  refine ⟨placedLine s.fmt code line, ?_, (placedLine_length _ _ _).trans hlen, hink, hcontinuation,
    fun k => placedLine_beside s.fmt code line, fun k cell hk hcell => ?_⟩
  · rw [putPrintable_of_fits c hfits, place_cursor hline]
    rfl
  · rw [placedLine_here s.fmt code line hk, hcell, Option.map_some, place_eq]

end Sys2Proof.Steps
end

section
/-!
O34: the drains (R64, R69, R70, R72, R90).
-/

namespace Sys2Proof.Steps

open Sys2Proof.Machine Sys2Proof.Safety Sys2Proof.Laws

variable {s : State} {d : Drain} {line : Line} {rest : List Line}

/-- R69: the form line counter when the line is committed. -/
def counterAfter (f : Formatter) (line : Line) : Nat :=
  if line.continuation then f.formCounter
  else if f.formLength = 0 then min 255 (f.formCounter + 1) else (f.formCounter + 1) % f.formLength

theorem drainCommit_step (ha : s.fmt.activity = .draining d) (hd : d.committing = true) (hw : s.fmt.window = line :: rest)
    (hroom : line.continuation = true ∨ s.head.queue.length + 12 ≤ 32) :
    drainCommit s = if rest = [] then lastCommitted d (commitOldest s) else commitOldest s := by
  have hmay : mayCommit s = true := by
    rw [mayCommit_iff, hw]
    exact hroom.symm
  have hlast : s.fmt.window.length ≤ 1 ↔ rest = [] := by
    rw [hw, List.length_cons, ← List.length_eq_zero_iff]
    omega
  simp only [drainCommit, ha, hd, hmay, Bool.and_self, if_true, hlast]

/-- R69, R70: the oldest of several lines is committed. -/
theorem commitOldest_more (hw : s.fmt.window = line :: rest) (hrest : rest ≠ []) :
    commitOldest s = { appendEntries (s.fmt.entriesOf line) s with fmt := { s.fmt with
      window := rest, cursorLine := s.fmt.cursorLine - 1, formCounter := counterAfter s.fmt line } } := by
  rw [commitOldest_cons hw]
  simp only [Formatter.dropOldest, hw, List.tail_cons, if_neg hrest]
  rfl

/-- R69: an only line is committed, and a fresh line takes its place. -/
theorem commitOldest_only (hw : s.fmt.window = [line]) (hcursor : s.fmt.cursorLine = 0) :
    commitOldest s = { appendEntries (s.fmt.entriesOf line) s with fmt := { s.fmt with
      window := [.fresh], formCounter := counterAfter s.fmt line } } := by
  rw [commitOldest_cons hw]
  simp only [Formatter.dropOldest, hw, List.tail_cons, hcursor, if_true]
  rfl

/-- R64: there are blank rows to the form top while the counter is below the form length. -/
theorem feedEntries_ne_nil {rows : Nat} (h : 0 < rows) : feedEntries rows ≠ [] := by
  unfold feedEntries
  intro e
  obtain ⟨hfull, hrest⟩ := List.append_eq_nil_iff.1 e
  have hnone : rows / 255 = 0 := by simpa using hfull
  split at hrest
  · omega
  · contradiction

/-- R64: the last line of an FF drain leaves its FEED entries to be appended. -/
theorem lastCommitted_formFeed (entries : Option (List Nat)) (h : s.fmt.formCounter < s.fmt.formLength) :
    lastCommitted (.formFeed entries) s = { s with fmt := { s.fmt with
      column := s.fmt.layout.left
      activity := .draining (.formFeed (some (feedEntries ((s.fmt.formLength - s.fmt.formCounter) * 12)))) } } := by
  have hne : feedEntries s.fmt.rowsToTop ≠ [] := feedEntries_ne_nil (Nat.mul_pos (by omega) (by decide))
  simp only [lastCommitted, if_neg hne]
  rfl

theorem free_of_lt (h : s.head.queue.length < 32) : 1 ≤ rowsFree s := by
  show 1 ≤ 32 - s.head.queue.length
  omega

theorem formFeedAppend_more {n : Nat} {more : List Nat} (ha : s.fmt.activity = .draining (.formFeed (some (n :: more))))
    (hfree : s.head.queue.length < 32) (hmore : more ≠ []) :
    formFeedAppend s = { appendEntries [.feed n] s with
      fmt := { s.fmt with activity := .draining (.formFeed (some more)) } } := by
  simp only [formFeedAppend, ha, if_pos (free_of_lt hfree), if_neg hmore, appendEntries_fmt]

theorem formFeedAppend_last {n : Nat} (ha : s.fmt.activity = .draining (.formFeed (some [n])))
    (hfree : s.head.queue.length < 32) :
    formFeedAppend s = { appendEntries [.feed n] s with fmt := { s.fmt with
      formCounter := 0, activity := .ready, owner := .none, lapse := none, flush := none } } := by
  simp only [formFeedAppend, ha, if_pos (free_of_lt hfree), if_true, appendEntries_fmt, endFormFeed, endDrain]

theorem feedAppend_last {n : Nat} (ha : s.fmt.activity = .draining (.feed n true)) (hfree : s.head.queue.length < 32) :
    feedAppend s = { appendEntries [.feed n] s with fmt := { s.fmt with
      activity := .ready, owner := .none, lapse := none, flush := none } } := by
  obtain ⟨h, u, k, e⟩ := appendEntries_touches s [.feed n]
  simp only [feedAppend, ha, if_pos (free_of_lt hfree), endDrain, e]

/-- Settles O34: `drainCommit_step` with a commit of one line of several or of the last, and the appended entries. -/
theorem drainsCommitAndEnd : Obligations.DrainsCommitAndEnd := by
  refine fun s hr => ⟨fun d line rest ha hd hw hroom => ?_, fun n more ha hfree => ⟨fun hmore => ?_, fun hlast => ?_⟩,
    fun n ha hfree => ?_⟩
  · rw [drainCommit_running hr, drainCommit_step ha hd hw hroom]
    refine ⟨fun hrest => ?_, fun column hrest hcursor hflush => ?_, fun n hrest hcursor hfeed => ?_,
      fun hrest hcursor hform hbelow => ?_⟩
    · rw [if_neg hrest, commitOldest_more hw hrest]
      rfl
    · subst hrest hflush
      rw [if_pos rfl, commitOldest_only hw hcursor]
      simp only [lastCommitted, completeFlush, endDrain, Formatter.setCursor, Formatter.cursor, hcursor]
      rfl
    · subst hrest hfeed
      rw [if_pos rfl, commitOldest_only hw hcursor]
      rfl
    · subst hrest hform
      rw [if_pos rfl, commitOldest_only hw hcursor, lastCommitted_formFeed]
      · rfl
      · exact hbelow
  · rw [formFeedEntryAppend_running hr, formFeedAppend_more ha hfree hmore]
  · subst hlast
    rw [formFeedEntryAppend_running hr, formFeedAppend_last ha hfree]
  · rw [feedEntryAppend_running hr, feedAppend_last ha hfree]

end Sys2Proof.Steps
end

section
/-!
O33: from the codes of a line's cells to its BURN and FEED entries (R76, R78, R79).
-/

namespace Sys2Proof.Steps

open Sys2Proof.Machine Sys2Proof.Safety

/-! ### The dots of a line (R76, R78) -/

theorem cellMarks_iff (soft : List (List Byte)) (cell : Cell) (row j : Nat) : cellMarks soft cell row j = true
    ↔ ∃ code ∈ cell.codes, (glyphRow soft code row).getLsbD (7 - cell.wide.column j) = true := List.any_eq_true

theorem mem_dotRow (soft : List (List Byte)) (line : Line) {r : Nat} (hr : r < 10) (p : Nat) : p ∈ dotRow soft line r
    ↔ p < 320 ∧ ∃ cell, line.cells[p / 8]? = some cell ∧ cellMarks soft cell r (p % 8) = true := by
  rw [dotRow, if_pos hr, List.mem_filter, List.mem_range]
  cases line.cells[p / 8]? <;> simp

/-- R76: the two rows below the glyph carry no dot. -/
theorem dotRow_below (soft : List (List Byte)) (line : Line) {r : Nat} (hr : 10 ≤ r) : dotRow soft line r = [] :=
  if_neg (Nat.not_lt.2 hr)

/-! ### Packing rows into entries (R79) -/

/-- R79: the dot rows that an entry stands for, one by one. -/
def entryRows : RowEntry → List (List Nat)
  | .burn dots => [dots]
  | .feed n => List.replicate n []

theorem length_entryRows (e : RowEntry) : (entryRows e).length = rowsIn e := by
  cases e with
  | burn dots => rfl
  | feed n => exact List.length_replicate

/-- R79: the entry for a run of blank rows. -/
def blankRun (n : Nat) : List RowEntry := if n = 0 then [] else [.feed n]

@[simp] theorem blankRun_zero : blankRun 0 = [] := rfl

@[simp] theorem blankRun_succ (n : Nat) : blankRun (n + 1) = [.feed (n + 1)] := rfl

@[simp] theorem packRows_nil (blank : Nat) : packRows blank [] = blankRun blank := rfl

@[simp] theorem packRows_blank (blank : Nat) (rest : List (List Nat)) :
    packRows blank ([] :: rest) = packRows (blank + 1) rest := rfl

@[simp] theorem packRows_burn (blank d : Nat) (ds : List Nat) (rest : List (List Nat)) :
    packRows blank ((d :: ds) :: rest) = blankRun blank ++ .burn (d :: ds) :: packRows 0 rest := rfl

theorem blankRun_entryRows (n : Nat) : (blankRun n).flatMap entryRows = List.replicate n [] := by
  cases n <;> simp [entryRows]

/-- No dot row is lost, moved or made. -/
theorem packRows_entryRows (blank : Nat) (rows : List (List Nat)) :
    (packRows blank rows).flatMap entryRows = List.replicate blank [] ++ rows := by
  induction rows generalizing blank with
  | nil => rw [packRows_nil, blankRun_entryRows, List.append_nil]
  | cons row rest ih =>
    cases row with
    | nil => rw [packRows_blank, ih, List.replicate_succ', List.append_assoc, List.singleton_append]
    | cons d ds => rw [packRows_burn, List.flatMap_append, blankRun_entryRows, List.flatMap_cons, ih, entryRows,
        List.singleton_append, List.replicate_zero, List.nil_append]

/-- R79: no FEED entry is next to another. -/
abbrev FeedsApart (es : List RowEntry) : Prop := es.IsChain fun a b => ¬ (isFeed a = true ∧ isFeed b = true)

/-- A run of blank rows ends at a BURN. -/
theorem packRows_feedsApart (blank : Nat) (rows : List (List Nat)) : FeedsApart (packRows blank rows) := by
  induction rows generalizing blank with
  | nil => cases blank <;> simp
  | cons row rest ih =>
    cases row with
    | nil => exact ih (blank + 1)
    | cons d ds =>
      have hburn : FeedsApart (.burn (d :: ds) :: packRows 0 rest) := List.isChain_cons.2 ⟨fun y _ => by simp [isFeed], ih 0⟩
      cases blank with
      | zero => exact hburn
      | succ n => exact List.isChain_cons.2 ⟨by simp [isFeed], hburn⟩

/-- Rows without a dot join the run of blank rows. -/
theorem packRows_of_blank (blank : Nat) {rows : List (List Nat)} (h : ∀ r ∈ rows, r = []) :
    packRows blank rows = blankRun (blank + rows.length) := by
  induction rows generalizing blank with
  | nil => rfl
  | cons row rest ih =>
    obtain ⟨rfl, hrest⟩ := List.forall_mem_cons.1 h
    rw [packRows_blank, ih (blank + 1) hrest, List.length_cons, Nat.add_assoc, Nat.add_comm 1]

/-- With two blank rows at its end, a list of rows packs into entries of which the last is their FEED; the FEEDs before it
take no entry that a blank row does not save. -/
theorem packRows_blankEnd (blank : Nat) (rows : List (List Nat)) :
    (packRows blank (rows ++ [[], []])).length ≤ rows.length + 1 + (blankRun blank).length
      ∧ ∃ n, (packRows blank (rows ++ [[], []])).getLast? = some (.feed n) ∧ 2 ≤ n := by
  induction rows generalizing blank with
  | nil => exact ⟨Nat.le_add_right _ _, blank + 2, rfl, Nat.le_add_left _ _⟩
  | cons row rest ih =>
    rw [List.cons_append, List.length_cons]
    cases row with
    | nil =>
      obtain ⟨hlen, hlast⟩ := ih (blank + 1)
      exact ⟨hlen.trans (by simp), hlast⟩
    | cons d ds =>
      obtain ⟨hlen, n, hlast, hn⟩ := ih 0
      rw [packRows_burn]
      refine ⟨?_, n, ?_, hn⟩
      · rw [List.length_append, List.length_cons]
        simp only [blankRun_zero, List.length_nil] at hlen
        omega
      · rw [List.getLast?_append, List.getLast?_cons, hlast]
        rfl

/-! ### A line's entries -/

/-- R79: a line's dot rows are those of its glyphs and two that are blank. -/
theorem dotRows_eq (soft : List (List Byte)) (line : Line) :
    (List.range 12).map (dotRow soft line) = (List.range 10).map (dotRow soft line) ++ [[], []] := by
  rw [show List.range 12 = List.range 10 ++ [10, 11] from rfl, List.map_append, List.map_cons, List.map_cons, List.map_nil,
    dotRow_below soft line (le_refl 10), dotRow_below soft line (Nat.le_succ 10)]

theorem rasterize_entryRows (soft : List (List Byte)) (line : Line) :
    (rasterize soft line).flatMap entryRows = (List.range 12).map (dotRow soft line) := packRows_entryRows 0 _

theorem rasterize_rowsIn (soft : List (List Byte)) (line : Line) : ((rasterize soft line).map rowsIn).sum = 12 := by
  have hlen := congrArg List.length (rasterize_entryRows soft line)
  rw [List.length_flatMap, List.length_map, List.length_range] at hlen
  simpa only [length_entryRows] using hlen

theorem rasterize_ends (soft : List (List Byte)) (line : Line) : (rasterize soft line).length ≤ 11
    ∧ ∃ n, (rasterize soft line).getLast? = some (.feed n) ∧ 2 ≤ n := by
  unfold rasterize
  rw [dotRows_eq]
  exact packRows_blankEnd 0 ((List.range 10).map (dotRow soft line))

theorem rasterize_blank (soft : List (List Byte)) (line : Line) (h : ∀ r, r < 10 → dotRow soft line r = []) :
    rasterize soft line = [.feed 12] := by
  refine packRows_of_blank 0 fun row hrow => ?_
  obtain ⟨r, -, rfl⟩ := List.mem_map.1 hrow
  rcases Nat.lt_or_ge r 10 with hr | hr
  · exact h r hr
  · exact dotRow_below soft line hr

/-- Settles O33: the dots of a row by `mem_dotRow`, the entries by what `packRows` makes of the twelve rows. -/
theorem rasterCoversTwelveRows : Obligations.RasterCoversTwelveRows := by
  intro soft line es
  have hsound := (rasterize_sound soft line).2
  obtain ⟨hlen, n, hlast, hn⟩ := rasterize_ends soft line
  refine ⟨fun r p hr => ?_, fun r hr => dotRow_below soft line hr, ?_, rasterize_rowsIn soft line,
    List.length_pos_of_mem (List.mem_of_getLast? hlast), hlen, fun dots hd => (hsound _ hd).1 dots rfl,
    fun m hm => ((hsound _ hm).2 m rfl).1, packRows_feedsApart 0 _, ⟨n, hlast, hn⟩, rasterize_blank soft line⟩
  · simp only [mem_dotRow soft line hr, cellMarks_iff, ← exists_and_left]
    rfl
  · refine Eq.trans (List.flatMap_congr fun e _ => ?_) (rasterize_entryRows soft line)
    cases e <;> rfl

end Sys2Proof.Steps
end

section
/-!
O24: PRINT TEXT and SEND TEXT, the directives without fields, and LOAD GLYPH (R77, R81, R82, R83, R89, R164).
-/

namespace Sys2Proof.Steps

open Sys2Proof.Machine Sys2Proof.Safety Sys2Proof.Laws

variable {dt : Micros}

/-! ### What the payloads read as -/

theorem readText_fits {p : List Byte} (h : 1 ≤ p.length) (h' : p.length ≤ 38) : readText p = .ok p :=
  if_neg (not_or.2 ⟨List.ne_nil_of_length_pos h, Nat.not_lt.2 h'⟩)

theorem readGlyph_soft {c : Byte} {rows : List Byte} (hrows : rows.length = 10) (hc : 0x80 ≤ c.toNat ∧ c.toNat ≤ 0x8F) :
    readGlyph (c :: rows) = .ok (c.toNat - 0x80, rows) := by
  simp only [readGlyph, if_pos hrows, if_pos hc]

theorem readGlyph_other {c : Byte} {rows : List Byte} (hrows : rows.length = 10) (hc : c.toNat < 0x80 ∨ 0x8F < c.toNat) :
    readGlyph (c :: rows) = .error .range := by
  rw [readGlyph, if_pos hrows, if_neg (by omega)]

/-! ### Text (R81, R164) -/

/-- All the codes are taken, or fewer: the flag for a rest left over. -/
theorem not_decide_min_eq (free n : Nat) : (!decide (min free n = n)) = decide (min free n < n) := by
  rw [← decide_not, decide_eq_decide]
  omega

theorem printText_eq (p : List Byte) (s : State) :
    let n := min (64 - s.fmt.ptq.length) p.length
    printText p s = ({ s with fmt := { s.fmt with
        ptq := s.fmt.ptq ++ (p.take n).map .char, ptqWanted := s.fmt.ptqWanted || decide (n < p.length) } },
      if n = p.length then .done 0x0B else .partly 0x0B n) := by
  simp only [printText, not_decide_min_eq, decide_eq_true_eq]
  rfl

theorem sendText_eq (p : List Byte) (s : State) :
    let n := min (64 - s.router.stq.length) p.length
    sendText p s = ({ s with router := { s.router with
        stq := s.router.stq ++ p.take n, stqWanted := s.router.stqWanted || decide (n < p.length) } },
      if n = p.length then .done 0x1A else .partly 0x1A n) := by
  simp only [sendText, not_decide_min_eq, decide_eq_true_eq]
  rfl

/-! ### Directives (R82) -/

/-- R82, steps 3 and 4: the record joins the queue, or finds it full. -/
theorem reply_placeDirective (kind : Byte) {b : Bool} {P : Prop} [Decidable P] (h : b = true ↔ P) (d : Directive) (s : State) :
    reply (placeDirective kind b d (closeFrame (after dt s))).2 (placeDirective kind b d (closeFrame (after dt s))).1
      = placed dt kind P d s := by
  have hfull : ptqFree (closeFrame (after dt s)) = 0 ↔ 64 ≤ s.fmt.ptq.length := Nat.sub_eq_zero_iff_le
  simp only [placeDirective, placed, hfull, doneOr_eq kind h]
  split <;> rfl

/-- Settles O24: each command by what its payload reads as, and the directives by `reply_placeDirective`. -/
theorem textDirectivesAndGlyphs : Obligations.TextDirectivesAndGlyphs := by
  refine ⟨fun s dt p h1 h38 => ⟨fun h => ?_, fun h => ?_⟩, fun s dt => ⟨fun h => ?_, fun h => ?_, fun n h => ?_,
    fun c rows hrows h => ⟨fun hlow hhigh => ?_, fun hc => ?_⟩⟩⟩
  · rw [printText_taken h, actPrintText, readText_fits h1 h38, answer_ok, printText_eq]
    rfl
  · rw [sendText_taken h, actSendText, readText_fits h1 h38, answer_ok, sendText_eq]
    rfl
  · rw [saveFormat_taken h]
    exact settled_congr (reply_placeDirective 0x0D (by decide) _ s)
  · rw [restoreFormat_taken h]
    exact settled_congr (reply_placeDirective 0x0E (by decide) _ s)
  · have hzero : decide (n = 0) = true ↔ n.toNat = 0 := by rw [decide_eq_true_iff, ← BitVec.toNat_inj]; rfl
    rw [feed_taken h]
    exact settled_congr (reply_placeDirective 0x0F hzero _ s)
  · rw [loadGlyph_taken h, actLoadGlyph, readGlyph_soft hrows ⟨hlow, hhigh⟩]
    rfl
  · rw [loadGlyph_taken h, actLoadGlyph, readGlyph_other hrows hc]
    rfl

end Sys2Proof.Steps
end

section
/-!
O25: the fields of a SET FORMAT, written into its payload and read back from it (R82, R85, R188).
-/

namespace Sys2Proof.Steps

open Sys2Proof.Machine Sys2Proof.Safety Sys2Proof.Laws

variable {r : RawFormat}

/-! ### The payload by its parts (R188) -/

/-- R188: which fields are present, in the order of their bits. -/
def presence (r : RawFormat) : List Bool :=
  [r.left.isSome, r.right.isSome, r.wrap.isSome, r.double.isSome, r.mark.isSome, r.tabs.isSome, r.formLength.isSome,
    r.flushDelay.isSome]

/-- R188: the presence byte. -/
def presenceByte (r : RawFormat) : Byte := BitVec.ofBoolListLE (presence r)

theorem presenceByte_getLsbD (r : RawFormat) (i : Nat) : (presenceByte r).getLsbD i = (presence r).getD i false :=
  BitVec.getLsbD_ofBoolListLE

/-- A byte written as the sum of its bits' values has those bits. -/
theorem ofNat_bits (a b c d e f g h : Bool) :
    BitVec.ofNat 8 ((if a then 2 ^ 0 else 0) + (if b then 2 ^ 1 else 0) + (if c then 2 ^ 2 else 0) + (if d then 2 ^ 3 else 0)
      + (if e then 2 ^ 4 else 0) + (if f then 2 ^ 5 else 0) + (if g then 2 ^ 6 else 0) + (if h then 2 ^ 7 else 0))
    = BitVec.ofBoolListLE [a, b, c, d, e, f, g, h] := by
  have hvalue (x : Bool) (n : Nat) : (if x then 2 ^ n else 0) = x.toNat * 2 ^ n := by cases x <;> simp
  have htoNat : (BitVec.ofBoolListLE [a, b, c, d, e, f, g, h]).toNat = a.toNat * 2 ^ 0 + b.toNat * 2 ^ 1 + c.toNat * 2 ^ 2
      + d.toNat * 2 ^ 3 + e.toNat * 2 ^ 4 + f.toNat * 2 ^ 5 + g.toNat * 2 ^ 6 + h.toNat * 2 ^ 7 := by
    simp only [List.length_nil, BitVec.ofBoolListLE, BitVec.toNat_concat, BitVec.toNat_ofNat]
    omega
  simp only [hvalue, ← htoNat]
  exact BitVec.ofNat_toNat ..

/-- R188: the tab stops in the payload. -/
def tabBytes : Option (List Byte) → List Byte
  | none => []
  | some ts => BitVec.ofNat 8 ts.length :: ts

/-- R188: the flush delay in the payload. -/
def delayBytes : Option Nat → List Byte
  | none => []
  | some d => wordBytes d

/-- R188: the margins, the switches and the mark, of one byte each. -/
def firstBytes (r : RawFormat) : List Byte :=
  r.left.toList ++ (r.right.toList ++ (r.wrap.toList ++ (r.double.toList ++ r.mark.toList)))

theorem formatPayload_eq (r : RawFormat) : formatPayload r
    = presenceByte r :: (firstBytes r ++ (tabBytes r.tabs ++ (r.formLength.toList ++ delayBytes r.flushDelay))) := by
  simp only [formatPayload, ofNat_bits, firstBytes, List.append_assoc]
  rfl

/-! ### Each part reads back -/

theorem takeByte_toList (f : Option Byte) (rest : List Byte) : takeByte f.isSome (f.toList ++ rest) = some (f, rest) := by
  cases f <;> rfl

theorem toNat_tabCount {ts : List Byte} (h : ts.length ≤ 30) : (BitVec.ofNat 8 ts.length).toNat = ts.length := by
  rw [BitVec.toNat_ofNat]
  omega

theorem takeTabs_tabBytes {f : Option (List Byte)} (h : ∀ ts ∈ f, ts.length ≤ 30) (rest : List Byte) :
    takeTabs f.isSome (tabBytes f ++ rest) = some (f, rest) := by
  cases f with
  | none => rfl
  | some ts => simp [takeTabs, tabBytes, toNat_tabCount (h ts rfl)]

theorem wordOf_bytes {d : Nat} (h : d ≤ 65535) : wordOf (BitVec.ofNat 8 d) (BitVec.ofNat 8 (d / 256)) = d := by
  simp only [wordOf, BitVec.toNat_ofNat]
  omega

theorem takeWord_delayBytes {f : Option Nat} (h : ∀ d ∈ f, d ≤ 65535) : takeWord f.isSome (delayBytes f) = some (f, []) := by
  cases f with
  | none => rfl
  | some d => simp only [takeWord, delayBytes, wordBytes, wordOf_bytes (h d rfl), Option.isSome_some, if_true]

theorem splitFormat_formatPayload (htabs : ∀ ts ∈ r.tabs, ts.length ≤ 30) (hdelay : ∀ d ∈ r.flushDelay, d ≤ 65535) :
    splitFormat (formatPayload r) = some r := by
  rw [formatPayload_eq]
  simp only [splitFormat, firstBytes, List.append_assoc, presenceByte_getLsbD, presence, List.getD_cons_zero,
    List.getD_cons_succ, takeByte_toList, takeTabs_tabBytes htabs, takeWord_delayBytes hdelay, Option.bind_some, if_true]

theorem length_firstBytes (r : RawFormat) :
    ((List.range 5).filter fun i => (presenceByte r).getLsbD i).length = (firstBytes r).length := by
  simp only [← List.countP_eq_length_filter, show List.range 5 = [0, 1, 2, 3, 4] from rfl, List.countP_cons, List.countP_nil,
    presenceByte_getLsbD, presence, List.getD_cons_zero, List.getD_cons_succ, firstBytes, List.length_append,
    Option.length_toList]
  omega

theorem length_delayBytes (f : Option Nat) : (delayBytes f).length = if f.isSome then 2 else 0 := by cases f <;> rfl

theorem formatLengthFits_formatPayload (htabs : ∀ ts ∈ r.tabs, ts.length ≤ 30) :
    formatLengthFits (formatPayload r) = true := by
  rw [formatPayload_eq]
  simp only [formatLengthFits, length_firstBytes]
  simp only [presenceByte_getLsbD, presence, List.getD_cons_zero, List.getD_cons_succ, ← length_delayBytes,
    ← Option.length_toList]
  cases hr : r.tabs with
  | none => simp [tabBytes]
  | some ts =>
    have hcount : (firstBytes r ++ (tabBytes (some ts) ++ (r.formLength.toList ++ delayBytes r.flushDelay)))[
        (firstBytes r).length]? = some (BitVec.ofNat 8 ts.length) := by
      rw [List.getElem?_append_right (le_refl _), Nat.sub_self]
      rfl
    simp only [Option.isSome_some, if_true, hcount, toNat_tabCount (htabs ts hr), decide_eq_true_eq]
    simp only [tabBytes, List.length_append, List.length_cons]
    omega

/-! ### What the fields are judged by (R85) -/

theorem switchGood_iff (f : Option Byte) : switchGood f = true ↔ ∀ b ∈ f, b.toNat ≤ 1 := by
  cases f with
  | none => simp [switchGood]
  | some b =>
    rcases Nat.lt_or_ge 1 b.toNat with hb | hb
    · simp [switchGood, switchOf_above hb, hb]
    · simp [switchGood, switchOf_le_one hb, hb]

theorem marginsGood_iff (left right : Option Byte) :
    marginsGood left right = true ↔ ∀ a ∈ left, ∀ b ∈ right, a.toNat < b.toNat := by
  cases left <;> cases right <;> simp [marginsGood]

theorem ascending_iff (ts : List Byte) : ascending ts = true ↔ ts.Pairwise fun a b => a.toNat < b.toNat := by
  refine ⟨fun h => List.pairwise_map.1 (pairwise_of_ascending h), fun h => ?_⟩
  induction ts with
  | nil => rfl
  | cons a rest ih =>
    cases rest with
    | nil => rfl
    | cons b more =>
      obtain ⟨hhead, hrest⟩ := List.pairwise_cons.1 h
      exact Bool.and_eq_true_iff.2 ⟨decide_eq_true (hhead b List.mem_cons_self), ih hrest⟩

theorem tabsGood_iff (f : Option (List Byte)) :
    tabsGood f = true ↔ ∀ ts ∈ f, ts.length ≤ 16 ∧ ts.Pairwise fun a b => a.toNat < b.toNat := by
  cases f <;> simp [tabsGood, ascending_iff]

/-- R85: SET FORMAT's judgement of its fields. -/
theorem formatGood_iff (r : RawFormat) :
    (switchGood r.wrap && switchGood r.double && marginsGood r.left r.right && tabsGood r.tabs) = true ↔ FormatGood r := by
  simp only [Bool.and_eq_true, switchGood_iff, marginsGood_iff, tabsGood_iff, and_assoc]

/-! ### The clamps (R85) -/

theorem movedBy_iff {α : Type} (f : Option α) (changed : α → Bool) : movedBy f changed = true ↔ ∃ x ∈ f, changed x = true := by
  cases f <;> simp [movedBy]

theorem clampDelay_moves (n : Nat) : clampDelay n ≠ n ↔ n ≠ 0 ∧ (n < 100 ∨ 5000 < n) := by
  unfold clampDelay
  split
  · next h => simp [h]
  · next h => rw [clampNat_moves (by decide), and_iff_right h]

/-- R85: SET FORMAT's judgement of what its clamps move. -/
theorem formatMoved_iff (r : RawFormat) :
    (movedBy r.left (fun b => decide (38 < b.toNat)) || movedBy r.right (fun b => decide (39 < b.toNat))
      || movedBy r.mark (fun b => decide (39 < b.toNat)) || movedBy r.tabs (fun ts => ts.any fun b => decide (39 < b.toNat))
      || movedBy r.flushDelay (fun n => clampDelay n != n)) = true ↔ FormatMoved r := by
  simp only [Bool.or_eq_true, movedBy_iff, decide_eq_true_eq, List.any_eq_true, bne_iff_ne, clampDelay_moves, or_assoc]

/-- R85: a stop below 39 stands, and one at or above it becomes 39. -/
theorem mem_clampTabs (ts : List Byte) (t : Nat) : t ∈ clampTabs ts ↔ ∃ b ∈ ts, min 39 b.toNat = t := by
  have hmem : t ∈ clampTabs ts ↔ ((∃ b ∈ ts, b.toNat = t) ∧ t < 39) ∨ (∃ b ∈ ts, 39 ≤ b.toNat) ∧ t = 39 := by
    unfold clampTabs
    dsimp only
    split <;> next hany =>
      simp only [List.any_map, List.any_eq_true, Function.comp_apply, decide_eq_true_eq] at hany
      simp [hany]
  rw [hmem]
  constructor
  · rintro (⟨⟨b, hb, rfl⟩, hlow⟩ | ⟨⟨b, hb, hhigh⟩, rfl⟩)
    · exact ⟨b, hb, min_eq_right hlow.le⟩
    · exact ⟨b, hb, min_eq_left hhigh⟩
  · rintro ⟨b, hb, rfl⟩
    rcases Nat.lt_or_ge b.toNat 39 with hlow | hhigh
    · rw [min_eq_right hlow.le]
      exact .inl ⟨⟨b, hb, rfl⟩, hlow⟩
    · exact .inr ⟨⟨b, hb, hhigh⟩, min_eq_left hhigh⟩

/-- R85: stops in ascending order stay so under the clamp, those made alike kept once. -/
theorem clampTabs_eq_dedup {ts : List Byte} (hlen : ts.length ≤ 16) (h : ts.Pairwise fun a b => a.toNat < b.toNat) :
    clampTabs ts = (ts.map fun b => min 39 b.toNat).dedup := by
  have hsorted := (clampTabs_ok hlen ((ascending_iff ts).2 h)).2.1
  have hmap : (ts.map fun b => min 39 b.toNat).Pairwise (· ≤ ·) :=
    List.pairwise_map.2 (h.imp fun hab => min_le_min_left 39 hab.le)
  refine List.Perm.eq_of_pairwise (le := (· ≤ ·)) (fun a b _ _ => Nat.le_antisymm) (hsorted.imp Nat.le_of_lt)
    (hmap.sublist (List.dedup_sublist _)) ?_
  refine (List.perm_ext_iff_of_nodup (hsorted.imp Nat.ne_of_lt) (List.nodup_dedup _)).2 fun t => ?_
  rw [mem_clampTabs, List.mem_dedup, List.mem_map]

theorem bind_switchOf {f : Option Byte} (h : ∀ b ∈ f, b.toNat ≤ 1) : f.bind switchOf = f.map fun b => decide (b = 1) := by
  cases f with
  | none => rfl
  | some b => exact switchOf_le_one (h b rfl)

/-- R85: the fields that the record holds, by the clamps. -/
theorem readFields_eq (h : FormatGood r) :
    { left := r.left.map fun b => min 38 b.toNat
      right := r.right.map fun b => min 39 b.toNat
      wrap := r.wrap.bind switchOf
      double := r.double.bind switchOf
      mark := r.mark.map fun b => min 39 b.toNat
      tabs := r.tabs.map clampTabs
      formLength := r.formLength.map BitVec.toNat
      flushDelay := r.flushDelay.map clampDelay } = clampedFields r := by
  obtain ⟨hwrap, hdouble, -, htabs⟩ := h
  have hstops : r.tabs.map clampTabs = r.tabs.map fun ts => (ts.map fun b => min 39 b.toNat).dedup :=
    Option.map_congr fun ts hts => clampTabs_eq_dedup (htabs ts hts).1 (htabs ts hts).2
  rw [bind_switchOf hwrap, bind_switchOf hdouble, hstops]
  rfl

/-! ### SET FORMAT -/

theorem readFormat_good {p : List Byte} (hp : splitFormat p = some r) (h : FormatGood r) :
    ∃ b, readFormat p = .ok (clampedFields r, b) ∧ (b = true ↔ FormatMoved r) := by
  refine ⟨_, ?_, formatMoved_iff r⟩
  simp only [readFormat, hp, if_pos ((formatGood_iff r).2 h), readFields_eq h]

theorem readFormat_refused {p : List Byte} (hp : splitFormat p = some r) (h : ¬ FormatGood r) :
    readFormat p = .error .range := by
  simp only [readFormat, hp, if_neg (mt (formatGood_iff r).1 h)]

/-- Settles O25: the payload reads back part by part, and its judgement is `formatGood_iff`. -/
theorem setFormatReadsItsFields : Obligations.SetFormatReadsItsFields := by
  intro r s dt htabs hdelay
  have hsplit := splitFormat_formatPayload htabs hdelay
  refine ⟨hsplit, formatLengthFits_formatPayload htabs, fun h => ⟨fun hgood => ?_, fun hbad => ?_⟩⟩
  · obtain ⟨moved, hread, hmoved⟩ := readFormat_good hsplit hgood
    rw [setFormat_taken h, actSetFormat, hread]
    exact settled_congr (reply_placeDirective 0x0C hmoved _ s)
  · rw [setFormat_taken h, actSetFormat, readFormat_refused hsplit hbad]
    rfl

end Sys2Proof.Steps
end

section
/-!
SUPPORT. What most operations leave as it is: the connection, the timers that hang on it, the debounce records with the keymap,
and the order of the flow codes (R107 to R174). O57 and O60 each look at these alone.
-/

namespace Sys2Proof.Steps

open Sys2Proof.Machine Sys2Proof.Safety Sys2Proof.Laws

variable {s t u : State}

/-- What `ConnectionOk` and `KeyboardOk` look at. -/
structure CallView where
  resetting : Option Cause
  conn : Conn
  breakTimer : Timer
  window : Timer
  records : List KeyRecord
  keymap : Keymap
  scanLine : Nat
  debounce : Nat
  repeatTimer : Timer
  repeatCode : Option Byte

def callView (s : State) : CallView where
  resetting := s.resetting
  conn := s.conn
  breakTimer := s.signal.breakTimer
  window := s.monitor.window
  records := s.keys.records
  keymap := s.keys.keymap
  scanLine := s.keys.scanLine
  debounce := s.keys.debounce
  repeatTimer := s.keys.repeatTimer
  repeatCode := s.keys.repeatCode

/-- The same, with what decides the order of the flow codes. -/
def sameView (s : State) : CallView × Option FlowCode × Bool := (callView s, s.router.slot, s.router.holdSent)

/-- R171: the flow slot agrees with the local hold state, and the kind to be sent next is as it was. -/
def KeepsFlow (s t : State) : Prop := SlotAgrees s → SlotAgrees t ∧ nextFlow t = nextFlow s

/-- From `s` to `t` the call, the keys' records and the order of the flow codes stand. -/
structure LeavesCall (s t : State) : Prop where
  view : callView t = callView s
  flow : KeepsFlow s t

namespace KeepsFlow

theorem of_slot (hslot : t.router.slot = s.router.slot) (hsent : t.router.holdSent = s.router.holdSent) : KeepsFlow s t := by
  intro h
  refine ⟨?_, by simp only [nextFlow, hslot, hsent]⟩
  simpa only [SlotAgrees, hslot, hsent] using h

theorem trans (h : KeepsFlow s t) (h' : KeepsFlow t u) : KeepsFlow s u := fun hs =>
  ⟨(h' (h hs).1).1, (h' (h hs).1).2.trans (h hs).2⟩

end KeepsFlow

namespace LeavesCall

/-- Nothing of the kind is touched. -/
theorem still (h : sameView t = sameView s) : LeavesCall s t := by
  simp only [sameView, Prod.mk.injEq] at h
  exact ⟨h.1, .of_slot h.2.1 h.2.2⟩

theorem trans (h : LeavesCall s t) (h' : LeavesCall t u) : LeavesCall s u :=
  ⟨h'.view.trans h.view, h.flow.trans h'.flow⟩

/-- An operation that begins by touching nothing of the kind. -/
theorem of_still (h : LeavesCall t u) (hsame : sameView t = sameView s) : LeavesCall s u := (still hsame).trans h

theorem resetting (h : LeavesCall s t) : t.resetting = s.resetting := congrArg CallView.resetting h.view

theorem conn (h : LeavesCall s t) : t.conn = s.conn := congrArg CallView.conn h.view

theorem breakTimer (h : LeavesCall s t) : t.signal.breakTimer = s.signal.breakTimer := congrArg CallView.breakTimer h.view

theorem window (h : LeavesCall s t) : t.monitor.window = s.monitor.window := congrArg CallView.window h.view

end LeavesCall

/-! ### The Head Driver and the Supply Monitor -/

theorem proceed_leavesCall (s : State) : LeavesCall s (proceed s) := by
  obtain ⟨h, u, k, e⟩ := proceed_touches s
  rw [e]; exact .still rfl

theorem stepStart_leavesCall (b : Bool) (s : State) : LeavesCall s (stepStart b s) := by
  obtain ⟨h, u, k, e⟩ := stepStart_touches s b
  rw [e]; exact .still rfl

theorem phaseStart_leavesCall (cfg : HeadConfig) (r : BurnRow) (s : State) : LeavesCall s (phaseStart cfg r s) := by
  obtain ⟨h, u, k, e⟩ := phaseStart_touches s cfg r
  rw [e]; exact .still rfl

theorem beginRow_leavesCall (s : State) : LeavesCall s (beginRow s) := by
  obtain ⟨h, u, k, e⟩ := beginRow_touches s
  rw [e]; exact .still rfl

theorem endRow_leavesCall (s : State) : LeavesCall s (endRow s) := by
  obtain ⟨h, u, k, e⟩ := endRow_touches s
  rw [e]; exact .still rfl

theorem appendEntries_leavesCall (es : List RowEntry) (s : State) : LeavesCall s (appendEntries es s) := by
  obtain ⟨h, u, k, e⟩ := appendEntries_touches s es
  rw [e]; exact .still rfl

theorem removeReasons_leavesCall (r : Reasons) (s : State) : LeavesCall s (removeReasons r s) := by
  obtain ⟨h, u, k, e⟩ := removeReasons_touches s r
  rw [e]; exact .still rfl

theorem endConversion_leavesCall (code : Byte) (s : State) : LeavesCall s (endConversion code s) := by
  obtain ⟨h, u, k, e⟩ := endConversion_touches s code
  rw [e]; exact .still rfl

theorem endEnergizing_leavesCall (s : State) : LeavesCall s (endEnergizing s) := (proceed_leavesCall _).of_still rfl

theorem forPhase_leavesCall {f : Phase → State → State} (h : ∀ p s, LeavesCall s (f p s)) (s : State) :
    LeavesCall s (forPhase f s) := by
  unfold forPhase
  split
  · exact .still rfl
  · exact h _ s

theorem endPulse_leavesCall (p : Phase) (s : State) : LeavesCall s (endPulse p s) := by
  unfold endPulse
  dsimp only
  split
  · split
    · exact (stepStart_leavesCall _ _).of_still rfl
    · split
      · exact (phaseStart_leavesCall _ _ _).of_still rfl
      · exact .still rfl
  · exact .still rfl

theorem endStep_leavesCall (s : State) : LeavesCall s (endStep s) := by
  unfold endStep
  dsimp only
  split
  · exact (endRow_leavesCall _).of_still rfl
  · split
    · exact (endRow_leavesCall _).of_still rfl
    · exact (stepStart_leavesCall _ _).of_still rfl
  · exact .still rfl

theorem endSettle_leavesCall (s : State) : LeavesCall s (endSettle s) := by
  unfold endSettle
  dsimp only
  split
  · exact (proceed_leavesCall _).of_still rfl
  · exact .still rfl

theorem endPaperTimer_leavesCall (s : State) : LeavesCall s (endPaperTimer s) :=
  (removeReasons_leavesCall _ _).of_still rfl

/-! ### The Print Formatter -/

theorem takeItem_leavesCall (o : Owner) (it : Item) (s : State) : LeavesCall s (takeItem o it s) := by
  obtain ⟨f, h, u, k, b, e⟩ := takeItem_touches s o it
  rw [e]; exact .still rfl

theorem takePtq_leavesCall (s : State) : LeavesCall s (takePtq s) := by
  obtain ⟨f, h, u, k, b, e⟩ := takePtq_touches s
  rw [e]; exact .still rfl

theorem takeKeyFeed_leavesCall (s : State) : LeavesCall s (takeKeyFeed s) := (takeItem_leavesCall _ _ _).of_still rfl

theorem checkPtqRoom_leavesCall (s : State) : LeavesCall s (checkPtqRoom s) := by
  obtain ⟨w, k, e⟩ := checkPtqRoom_touches s
  rw [e]; exact .still rfl

theorem endFlushTimer_leavesCall (s : State) : LeavesCall s (endFlushTimer s) := by
  unfold endFlushTimer
  dsimp only
  split <;> exact .still rfl

theorem commitOldest_leavesCall (s : State) : LeavesCall s (commitOldest s) := by
  obtain ⟨f, h, u, k, e⟩ := commitOldest_touches s
  rw [e]; exact .still rfl

theorem lastCommitted_leavesCall (d : Drain) (s : State) : LeavesCall s (lastCommitted d s) := by
  cases d with
  | flush column => exact .still rfl
  | formFeed entries => simp only [lastCommitted]; split <;> exact .still rfl
  | feed rows committed => exact .still rfl

theorem drainCommit_leavesCall (s : State) : LeavesCall s (drainCommit s) := by
  unfold drainCommit
  split
  · split
    · dsimp only
      split
      · exact (commitOldest_leavesCall s).trans (lastCommitted_leavesCall _ _)
      · exact commitOldest_leavesCall s
    · exact .still rfl
  · exact .still rfl

theorem formFeedAppend_leavesCall (s : State) : LeavesCall s (formFeedAppend s) := by
  unfold formFeedAppend
  split
  · next n rest _ =>
    have happend : LeavesCall s (appendEntries [.feed n]
        { s with fmt := { s.fmt with activity := .draining (.formFeed (some rest)) } }) :=
      (appendEntries_leavesCall _ _).of_still rfl
    split
    · dsimp only
      split
      · exact happend.trans (.still rfl)
      · exact happend
    · exact .still rfl
  · exact .still rfl

theorem feedAppend_leavesCall (s : State) : LeavesCall s (feedAppend s) := by
  unfold feedAppend
  split
  · split
    · exact (appendEntries_leavesCall _ s).trans (.still rfl)
    · exact .still rfl
  · exact .still rfl

/-! ### Flow control and received characters (R160 to R174) -/

/-- R171: where the slot agrees, going to HOLD SENT sends the hold that was due, or owes the resume that was. -/
theorem sendHold_nextFlow (h : SlotAgrees s) (hsent : s.router.holdSent = false) (k : LinkPort) :
    nextFlow { s with router := s.router.sendHold, link := k } = nextFlow s := by
  rcases e : s.router.slot with _ | ⟨kind, code⟩
  · simp [nextFlow, Router.sendHold, e, hsent]
  · cases kind with
    | hold => exact absurd ((h ⟨.hold, code⟩ e).1 rfl) (by simp [hsent])
    | resume => simp [nextFlow, Router.sendHold, e]

/-- R171: and going to CLEAR likewise. -/
theorem sendResume_nextFlow (h : SlotAgrees s) (hsent : s.router.holdSent = true) (k : LinkPort) :
    nextFlow { s with router := s.router.sendResume, link := k } = nextFlow s := by
  rcases e : s.router.slot with _ | ⟨kind, code⟩
  · simp [nextFlow, Router.sendResume, e, hsent]
  · cases kind with
    | hold => simp [nextFlow, Router.sendResume, e]
    | resume => exact absurd ((h ⟨.resume, code⟩ e).2 hsent) (by simp)

theorem judgeHold_leavesCall (s : State) : LeavesCall s (judgeHold s) where
  view := by
    obtain ⟨h, f, k, e⟩ := judgeHold_touches s
    rw [e]; rfl
  flow h := by
    unfold judgeHold
    split_ifs with hhold hresume
    · simp only [Bool.and_eq_true, Bool.not_eq_true'] at hhold
      exact ⟨sendHold_agrees _, sendHold_nextFlow h hhold.2 _⟩
    · simp only [Bool.and_eq_true] at hresume
      exact ⟨sendResume_agrees _, sendResume_nextFlow h hresume.2 _⟩
    · exact ⟨h, rfl⟩

theorem turnFlowOff_leavesCall (s : State) : LeavesCall s (turnFlowOff s) := by
  unfold turnFlowOff
  dsimp only
  split
  · next hsent =>
    have hresume : LeavesCall s { s with router := s.router.sendResume, link := s.link.pendLine } :=
      ⟨rfl, fun h => ⟨sendResume_agrees _, sendResume_nextFlow h hsent _⟩⟩
    exact hresume.trans (.still rfl)
  · exact .still rfl

theorem setFlow_leavesCall (x : FlowSettings) (s : State) : LeavesCall s (setFlow x s) := by
  have hcodes : LeavesCall s (setFlowCodes x s) := .still rfl
  unfold setFlow
  dsimp only
  split_ifs
  · exact hcodes
  · exact (judgeHold_leavesCall _).of_still rfl
  · exact hcodes.trans (turnFlowOff_leavesCall _)

theorem setRemoteHeld_leavesCall (s : State) : LeavesCall s (setRemoteHeld s) := .still rfl

theorem echo_flow (code : Byte) (r : Router) : (r.echo code).slot = r.slot ∧ (r.echo code).holdSent = r.holdSent := by
  unfold Router.echo
  split <;> exact ⟨rfl, rfl⟩

theorem storeChar_leavesCall (c : RxChar) (s : State) : LeavesCall s (storeChar c s) := by
  unfold storeChar
  split
  · dsimp only
    refine (judgeHold_leavesCall _).of_still ?_
    split
    · simp only [sameView, echo_flow, callView]
    · rfl
  · exact .still rfl

theorem arrive_leavesCall (c : RxChar) (s : State) : LeavesCall s (arrive c s) := by
  unfold arrive consumeFlow
  split
  · split
    · exact setRemoteHeld_leavesCall s
    · exact .still rfl
  · exact (storeChar_leavesCall c _).of_still rfl

/-! ### Takes and the end of a row -/

theorem checkStqRoom_leavesCall (s : State) : LeavesCall s (checkStqRoom s) := by
  unfold checkStqRoom
  split <;> exact .still rfl

theorem removeHead_leavesCall (src : Source) (s : State) : LeavesCall s (removeHead src s) := by
  cases src with
  | rx => exact (judgeHold_leavesCall _).of_still rfl
  | key => exact .still rfl
  | stq => exact (checkStqRoom_leavesCall _).of_still rfl

theorem toLink_flow (src : Source) (c : KeyChar) (r : Router) :
    (r.toLink src c).slot = r.slot ∧ (r.toLink src c).holdSent = r.holdSent := by
  cases src <;> exact ⟨rfl, rfl⟩

theorem deliverQueues_leavesCall (src : Source) (x : SinkSet) (c : KeyChar) (s : State) :
    LeavesCall s (deliverQueues src x c s) := by
  refine .still ?_
  unfold deliverQueues
  dsimp only
  split_ifs <;> simp only [sameView, toLink_flow, callView]

theorem takeSource_leavesCall (src : Source) (s : State) : LeavesCall s (takeSource src s) := by
  unfold takeSource
  split
  · exact .still rfl
  · dsimp only
    split
    · exact ((removeHead_leavesCall src s).trans (deliverQueues_leavesCall _ _ _ _)).trans (takeItem_leavesCall _ _ _)
    · exact (removeHead_leavesCall src s).trans (deliverQueues_leavesCall _ _ _ _)

theorem takeIfReady_leavesCall (src : Source) (s : State) : LeavesCall s (takeIfReady src s) := by
  unfold takeIfReady
  split
  · exact takeSource_leavesCall src s
  · exact .still rfl

theorem takeOwned_leavesCall (s : State) : LeavesCall s (takeOwned s) := by
  unfold takeOwned
  split
  · exact .still rfl
  · exact takeSource_leavesCall _ s
  · split
    · exact takeKeyFeed_leavesCall s
    · exact takeSource_leavesCall _ s
  · exact takeSource_leavesCall _ s
  · exact takePtq_leavesCall s

theorem endStall_leavesCall (s : State) : LeavesCall s (endStall s) := by
  unfold endStall
  split
  · split
    · exact .still rfl
    · split_ifs
      · exact takeOwned_leavesCall s
      · exact .still rfl
      · exact .still rfl
  · exact .still rfl

theorem grant_leavesCall (s : State) : LeavesCall s (grant s) := by
  obtain ⟨o, l, e⟩ := grant_touches s
  rw [e]; exact .still rfl

theorem beginStall_leavesCall (s : State) : LeavesCall s (beginStall s) := by
  obtain ⟨a, l, f, e⟩ := beginStall_touches s
  rw [e]; exact .still rfl

theorem judgeFormatter_leavesCall (s : State) : LeavesCall s (judgeFormatter s) :=
  ((endStall_leavesCall s).trans (grant_leavesCall _)).trans (beginStall_leavesCall _)

theorem kickLink_leavesCall (s : State) : LeavesCall s (kickLink s) := by
  obtain ⟨k, rx, kd, e⟩ := kickLink_touches s
  rw [e]; exact .still rfl

theorem settleRow_leavesCall (s : State) : LeavesCall s (settleRow s) := by
  have htone : LeavesCall s (settleTone s) := .still rfl
  exact ((htone.trans (judgeFormatter_leavesCall _)).trans (kickLink_leavesCall _)).trans (judgeFormatter_leavesCall _)

theorem formatterTake_leavesCall (s : State) : LeavesCall s (formatterTake s) := by
  have hg := grant_leavesCall s
  unfold formatterTake
  dsimp only
  split_ifs
  · exact .still rfl
  · split
    · exact .still rfl
    · split_ifs
      · exact hg.trans (takePtq_leavesCall _)
      · exact .still rfl
  · exact hg.trans (takeKeyFeed_leavesCall _)
  · exact .still rfl
  · exact .still rfl

/-! ### The signal path -/

theorem handOn_leavesCall (c : RxChar) (s : State) : LeavesCall s (handOn c s) := (arrive_leavesCall c _).of_still rfl

theorem finishChar_leavesCall (c : RxChar) (spoiled : Bool) (s : State) : LeavesCall s (finishChar c spoiled s) := by
  unfold finishChar
  split
  · exact handOn_leavesCall c s
  · exact .still rfl

theorem characterFinished_leavesCall (s : State) : LeavesCall s (characterFinished s) := by
  unfold characterFinished
  split
  · split
    · unfold lastCentre
      dsimp only
      split
      · exact .still rfl
      · exact (finishChar_leavesCall _ _ _).of_still rfl
    · exact .still rfl
  · split
    · exact (finishChar_leavesCall _ _ _).of_still rfl
    · exact .still rfl
  · exact .still rfl

theorem centreReached_leavesCall (s : State) : LeavesCall s (centreReached s) := by
  unfold centreReached
  split
  · split <;> exact .still rfl
  · exact .still rfl

theorem breakWatchEnd_leavesCall (s : State) : LeavesCall s (breakWatchEnd s) := by
  unfold breakWatchEnd breakReceived
  split
  · split
    · exact .still rfl
    · dsimp only
      split <;> exact .still rfl
  · exact .still rfl

theorem countHalf_window (c : HalfClass) (m : Monitor) : (m.countHalf c).window = m.window := by
  unfold Monitor.countHalf
  split <;> rfl

theorem judgeHalf_leavesCall (h : Micros) (s : State) : LeavesCall s (judgeHalf h s) :=
  .still (by simp only [sameView, callView, judgeHalf, countHalf_window])

theorem crossing_leavesCall (at0 : Nat) (s : State) : LeavesCall s (crossing at0 s) := by
  unfold crossing
  dsimp only
  split
  · exact .still rfl
  · exact (judgeHalf_leavesCall _ s).trans (.still rfl)

theorem inputCrossing_leavesCall (dt : Micros) (s : State) : LeavesCall s (inputCrossing dt s) := by
  unfold inputCrossing ownCrossing
  split
  · split
    · exact .still rfl
    · exact (crossing_leavesCall _ _).of_still rfl
  · exact (crossing_leavesCall _ _).of_still rfl

theorem cellBoundary_leavesCall (s : State) : LeavesCall s (cellBoundary s) := by
  unfold cellBoundary
  split
  · split <;> exact .still rfl
  · exact .still rfl

theorem framerCharacterEnd_leavesCall (s : State) : LeavesCall s (framerCharacterEnd s) := by
  unfold framerCharacterEnd characterEnd
  split
  · split
    · dsimp only
      split
      · exact (handOn_leavesCall _ _).of_still rfl
      · exact .still rfl
    · exact .still rfl
  · exact .still rfl

/-! ### The message link -/

theorem complete_leavesCall (kind : Byte) (p : List Byte) {act : State → State × Reply}
    (hact : ∀ u, LeavesCall u (act u).1) (s : State) : LeavesCall s (complete kind p act s) := by
  rcases complete_cases (kind := kind) (p := p) act s with e | e | ⟨-, e⟩ <;> rw [e]
  · exact .still rfl
  · exact .still rfl
  · have hact' : LeavesCall s (act (closeFrame s)).1 := (hact _).of_still rfl
    exact hact'.trans (.still rfl)

theorem rejectUnknown_leavesCall (kind : Byte) (p : List Byte) (s : State) : LeavesCall s (rejectUnknown kind p s) := by
  unfold rejectUnknown
  split
  · exact .still rfl
  · exact complete_leavesCall kind p (fun _ => .still rfl) s

theorem rejectCheck_leavesCall (kind : Byte) (p : List Byte) (check : Byte) (s : State) :
    LeavesCall s (rejectCheck kind p check s) := by
  unfold rejectCheck
  split
  · exact .still rfl
  · exact complete_leavesCall kind p (fun _ => .still rfl) s

theorem countStray_leavesCall (b : Byte) (s : State) : LeavesCall s (countStray b s) := by
  unfold countStray
  split
  · split <;> exact .still rfl
  · exact .still rfl

theorem openFrame_leavesCall (s : State) : LeavesCall s (openFrame s) := by
  unfold openFrame
  split <;> exact .still rfl

theorem longLength_leavesCall (b : Byte) (s : State) : LeavesCall s (longLength b s) := by
  unfold longLength endByLength
  split
  · split <;> exact .still rfl
  · exact .still rfl

theorem endUnready_leavesCall (s : State) : LeavesCall s (endUnready s) := by
  unfold endUnready
  split
  · exact .still rfl
  · split <;> exact .still rfl
  · exact .still rfl

theorem tearFrame_leavesCall (s : State) : LeavesCall s (tearFrame s) := by
  unfold tearFrame
  split <;> exact .still rfl

theorem collectByte_leavesCall (b : Byte) (s : State) : LeavesCall s (collectByte b s) := by
  unfold collectByte
  split
  · split <;> exact .still rfl
  · exact .still rfl

/-! ### Commands -/

/-- R180: a command refused at its judgement changes nothing. -/
theorem answer_leavesCall {α : Type} (kind : Byte) (read : Except Reason α) {act : α → State → State × Reply}
    (h : ∀ x s, LeavesCall s (act x s).1) (s : State) : LeavesCall s (answer kind read act s).1 := by
  cases read with
  | error reason => exact .still rfl
  | ok x => exact h x s

theorem setHead_leavesCall (p : List Byte) (s : State) : LeavesCall s (actSetHead p s).1 :=
  answer_leavesCall 0x08 (judgeHead p s) (act := fun x s => (configureHead x.1 s, doneOr 0x08 x.2))
    (fun _ _ => (beginRow_leavesCall _).of_still rfl) s

theorem placeDirective_leavesCall (kind : Byte) (b : Bool) (d : Directive) (s : State) :
    LeavesCall s (placeDirective kind b d s).1 := by
  unfold placeDirective
  split <;> exact .still rfl

theorem setLine_leavesCall (p : List Byte) (s : State) : LeavesCall s (actSetLine p s).1 := by
  refine answer_leavesCall _ _ (fun x s => ?_) s
  dsimp only
  split <;> exact .still rfl

theorem clearQueue_leavesCall (p : List Byte) (s : State) : LeavesCall s (actClearQueue p s).1 := by
  refine answer_leavesCall _ _ (fun q s => ?_) s
  cases q with
  | stq => exact (checkStqRoom_leavesCall _).of_still rfl
  | ptq => exact (checkPtqRoom_leavesCall _).of_still rfl
  | key => exact .still rfl

/-! ### Rows -/

theorem row_leavesCall {f : State → State} (e : row f s = .next t) (hf : LeavesCall s (f s)) : LeavesCall s t :=
  row_keeps (P := LeavesCall s) (fun u h => h.trans (settleRow_leavesCall u)) (.still rfl) hf e

theorem timerRow_leavesCall {timer : State → Timer} {f : State → State} (e : timerRow timer f s = .next t)
    (hf : ∀ u, LeavesCall u (f u)) : LeavesCall s t :=
  timerRow_keeps (P := LeavesCall s) (fun u h => h.trans (settleRow_leavesCall u)) (.still rfl)
    (fun _ _ => (hf _).of_still rfl) e

theorem commandRow_leavesCall {act : State → State × Reply} {kind : Byte} {dt : Micros} {p : List Byte}
    (e : commandRow kind dt p act s = .next t) (hact : ∀ u, LeavesCall u (act u).1) : LeavesCall s t :=
  row_leavesCall e ((complete_leavesCall kind p hact _).of_still rfl)

/-- The rows that may move the call, a key's record or the order of the flow codes. -/
def movesCall : Instr → Bool
  | .connect _ _ | .disconnect _ _ | .sendBreak _ _ | .setLoop _ _ | .setKeys _ _ | .loadKeymap _ _ | .linkFrameEnd
  | .powerUpReset _ | .generalResetFromPin _ | .resetEnd _ | .framerTake | .breakTimerExpiry | .carrierWindowEnd
  | .connectTimerExpiry | .settleTimerExpiry | .dropoutTimerExpiry | .clearingTimerExpiry | .scanReading _
  | .repeatTimerExpiry => true
  | _ => false

/-- Every other row leaves them. -/
theorem exec_leavesCall (i : Instr) (hi : movesCall i = false) (e : exec i s = .next t) : LeavesCall s t := by
  cases i <;> dsimp only [exec] at e
  case connect | disconnect | sendBreak | setLoop | setKeys | loadKeymap | linkFrameEnd | powerUpReset | generalResetFromPin
      | resetEnd | framerTake | breakTimerExpiry | carrierWindowEnd | connectTimerExpiry | settleTimerExpiry
      | dropoutTimerExpiry | clearingTimerExpiry | scanReading | repeatTimerExpiry => simp [movesCall] at hi
  case identify dt p => exact commandRow_leavesCall e (answer_leavesCall _ _ fun _ _ => .still rfl)
  case restart dt p => exact commandRow_leavesCall e (answer_leavesCall _ _ fun _ _ => .still rfl)
  case readConditions dt p => exact commandRow_leavesCall e (answer_leavesCall _ _ fun _ _ => .still rfl)
  case readStatus dt p => exact commandRow_leavesCall e (answer_leavesCall _ _ fun _ _ => .still rfl)
  case setReports dt p => exact commandRow_leavesCall e (answer_leavesCall _ _ fun _ _ => .still rfl)
  case setHead dt p => exact commandRow_leavesCall e (setHead_leavesCall p)
  case setDensity dt p => exact commandRow_leavesCall e (answer_leavesCall _ _ fun _ _ => .still rfl)
  case printText dt p => exact commandRow_leavesCall e (answer_leavesCall _ _ fun _ _ => .still rfl)
  case setFormat dt p => exact commandRow_leavesCall e (answer_leavesCall _ _ fun _ _ => placeDirective_leavesCall _ _ _ _)
  case saveFormat dt p => exact commandRow_leavesCall e (answer_leavesCall _ _ fun _ _ => placeDirective_leavesCall _ _ _ _)
  case restoreFormat dt p => exact commandRow_leavesCall e (answer_leavesCall _ _ fun _ _ => placeDirective_leavesCall _ _ _ _)
  case feed dt p => exact commandRow_leavesCall e (answer_leavesCall _ _ fun _ _ => placeDirective_leavesCall _ _ _ _)
  case loadGlyph dt p => exact commandRow_leavesCall e (answer_leavesCall _ _ fun _ _ => .still rfl)
  case setLine dt p => exact commandRow_leavesCall e (setLine_leavesCall p)
  case setCarrier dt p => exact commandRow_leavesCall e (answer_leavesCall _ _ fun _ _ => .still rfl)
  case sendText dt p => exact commandRow_leavesCall e (answer_leavesCall _ _ fun _ _ => .still rfl)
  case setRoutes dt p => exact commandRow_leavesCall e (answer_leavesCall _ _ fun _ _ => .still rfl)
  case setFlow dt p => exact commandRow_leavesCall e (answer_leavesCall _ _ fun x _ => setFlow_leavesCall x.1 _)
  case clearQueue dt p => exact commandRow_leavesCall e (clearQueue_leavesCall p)
  case unknownKindFrame dt kind p => exact row_leavesCall e ((rejectUnknown_leavesCall kind p _).of_still rfl)
  case strayByte dt b => exact row_leavesCall e ((countStray_leavesCall b _).of_still rfl)
  case leadByte dt => exact row_leavesCall e ((openFrame_leavesCall _).of_still rfl)
  case lengthByteAbove40 dt b => exact row_leavesCall e ((longLength_leavesCall b _).of_still rfl)
  case unreadyFrame dt => exact row_leavesCall e ((endUnready_leavesCall _).of_still rfl)
  case gapTimerExpiry => exact timerRow_leavesCall e tearFrame_leavesCall
  case energizingTimerExpiry => exact timerRow_leavesCall e endEnergizing_leavesCall
  case holdTimerExpiry => exact timerRow_leavesCall e fun _ => .still rfl
  case loadingEnd => exact timerRow_leavesCall e (forPhase_leavesCall fun _ _ => .still rfl)
  case pulseEnd => exact timerRow_leavesCall e (forPhase_leavesCall endPulse_leavesCall)
  case stepEnd => exact timerRow_leavesCall e endStep_leavesCall
  case settlePeriodEnd => exact timerRow_leavesCall e endSettle_leavesCall
  case paperSensorChange dt =>
    unfold execPaperSensorChange at e
    split at e
    · exact Host.Outcome.next.inj e ▸ .still rfl
    · exact row_leavesCall e (.still rfl)
  case paperPresentTimerExpiry => exact timerRow_leavesCall e endPaperTimer_leavesCall
  case converterReading code => exact timerRow_leavesCall e (endConversion_leavesCall code)
  case formatterTakeItem => exact row_leavesCall e (formatterTake_leavesCall s)
  case lapseTimerExpiry => exact timerRow_leavesCall e fun _ => .still rfl
  case flushTimerExpiry => exact timerRow_leavesCall e endFlushTimer_leavesCall
  case drainCommit => exact row_leavesCall e (drainCommit_leavesCall s)
  case formFeedEntryAppend => exact row_leavesCall e (formFeedAppend_leavesCall s)
  case feedEntryAppend => exact row_leavesCall e (feedAppend_leavesCall s)
  case halfPeriodEnd dt => exact row_leavesCall e (inputCrossing_leavesCall dt s)
  case characterFinished => exact row_leavesCall e (characterFinished_leavesCall s)
  case breakWatchEnd => exact row_leavesCall e (breakWatchEnd_leavesCall s)
  case framerCharacterEnd => exact row_leavesCall e (framerCharacterEnd_leavesCall s)
  case breakMarkEnd => exact timerRow_leavesCall e fun _ => .still rfl
  case remoteHoldTimerExpiry => exact timerRow_leavesCall e fun _ => .still rfl
  case routerTake src => exact row_leavesCall e (takeIfReady_leavesCall src s)
  case beeperEndTime => exact timerRow_leavesCall e fun _ => .still rfl
  case cellCentre => exact row_leavesCall e (centreReached_leavesCall s)
  case cellBoundary => exact row_leavesCall e (cellBoundary_leavesCall s)
  case frameByteReceived dt b => exact row_leavesCall e ((collectByte_leavesCall b _).of_still rfl)
  case wrongCheckByte dt kind p check => exact row_leavesCall e ((rejectCheck_leavesCall kind p check _).of_still rfl)

end Sys2Proof.Steps
end

section
/-!
SUPPORT. Each change of the connection keeps its timers, its loop mode and the Carrier Monitor's window in agreement with the
connect state (R110, R118 to R133).
-/

namespace Sys2Proof.Steps

open Sys2Proof.Machine Sys2Proof.Safety Sys2Proof.Laws

variable {s t : State} {c new : Conn}

/-- R121 to R127, R131: each timer of the controller runs in its own states, and the loop mode suits the state. -/
structure ConnSound (c : Conn) : Prop where
  connect : c.connectTimer.isSome ↔ c.state = .waitAnswer ∨ c.state = .answering
  settle : c.settleTimer.isSome ↔ c.state = .settle
  dropout : c.dropoutTimer.isSome ↔ c.state = .fade
  clearing : c.clearingTimer.isSome ↔ c.state = .clearing
  test : c.loop = .localTone ∨ c.loop = .localChar ↔ c.state = .test
  echo : c.loop = .remoteEcho → c.state = .online ∨ c.state = .fade

/-- R110, R118, R131: `ConnectionOk`, with a name for each of its parts. -/
structure CallSound (s : State) : Prop where
  conn : ConnSound s.conn
  breakTimer : s.signal.breakTimer.isSome → OpenCall s
  window : s.resetting = none → (s.monitor.window = none ↔ s.conn.loop = .localChar)
  held : s.resetting.isSome → s.conn.loop = .normal

theorem CallSound.iff_connectionOk : CallSound s ↔ ConnectionOk s :=
  ⟨fun ⟨⟨h1, h2, h3, h4, h5, h6⟩, h7, h8, h9⟩ => ⟨h1, h2, h3, h4, h5, h6, h7, h8, h9⟩,
    fun ⟨h1, h2, h3, h4, h5, h6, h7, h8, h9⟩ => ⟨⟨h1, h2, h3, h4, h5, h6⟩, h7, h8, h9⟩⟩

theorem CallSound.of_view (hs : CallSound s) (h : callView t = callView s) : CallSound t := by
  obtain ⟨hconn, hbreak, hwindow, hheld⟩ := hs
  have hc : t.conn = s.conn := congrArg CallView.conn h
  have hb : t.signal.breakTimer = s.signal.breakTimer := congrArg CallView.breakTimer h
  have hw : t.monitor.window = s.monitor.window := congrArg CallView.window h
  have hr : t.resetting = s.resetting := congrArg CallView.resetting h
  refine ⟨hc ▸ hconn, ?_, ?_, ?_⟩
  · simpa only [OpenCall, hb, hc] using hbreak
  · simpa only [hr, hw, hc] using hwindow
  · simpa only [hr, hc] using hheld

theorem breakAllowed_iff (c : Conn) : breakAllowed c = true ↔ c.state = .online ∨ c.state = .fade := by
  simp [breakAllowed]

namespace ConnSound

/-- R131: out of TEST the mode is NORMAL, or REMOTE ECHO in an open call. -/
theorem loop_ne_local (h : ConnSound c) (hstate : c.state ≠ .test) : c.loop ≠ .localTone ∧ c.loop ≠ .localChar :=
  not_or.1 fun hl => hstate (h.test.1 hl)

/-- R131: a call not yet open has the mode NORMAL. -/
theorem loop_normal (h : ConnSound c) (hstate : c.state ≠ .test) (hopen : breakAllowed c = false) : c.loop = .normal := by
  obtain ⟨htone, hchar⟩ := h.loop_ne_local hstate
  cases hl : c.loop with
  | normal => rfl
  | localTone => exact absurd hl htone
  | localChar => exact absurd hl hchar
  | remoteEcho => simp [(breakAllowed_iff c).2 (h.echo hl)] at hopen

theorem idle (c : Conn) : ConnSound (c.to .idle .normal) := by constructor <;> simp [Conn.to]

theorem online {loop : LoopMode} (h : loop ≠ .localTone ∧ loop ≠ .localChar) (c : Conn) : ConnSound (c.to .online loop) := by
  constructor <;> simp [Conn.to, h]

theorem fade {loop : LoopMode} (h : loop ≠ .localTone ∧ loop ≠ .localChar) (c : Conn) (due : Micros) :
    ConnSound { c.to .fade loop with dropoutTimer := some due } := by
  constructor <;> simp [Conn.to, h]

theorem toSettle (c : Conn) (due : Micros) : ConnSound { c.to .settle .normal with settleTimer := some due } := by
  constructor <;> simp [Conn.to]

theorem toClearing (c : Conn) (due : Micros) : ConnSound { c.to .clearing .normal with clearingTimer := some due } := by
  constructor <;> simp [Conn.to]

theorem calling (role : Role) (c : Conn) (due : Micros) :
    ConnSound { c.to (match role with
      | .originate => .waitAnswer
      | .answer => .answering) .normal with role := role, connectTimer := some due } := by
  cases role <;> constructor <;> simp [Conn.to]

end ConnSound

namespace CallSound

theorem setKeys (h : CallSound s) (k : Keys) : CallSound { s with keys := k } := ⟨h.conn, h.breakTimer, h.window, h.held⟩

/-- R118: the monitor runs but in TEST with LOCAL CHAR. -/
theorem window_runs (h : CallSound s) (hreset : s.resetting = none) (hloop : s.conn.loop ≠ .localChar) :
    s.monitor.window ≠ none :=
  mt (h.window hreset).1 hloop

/-- R110: a break timer starts in an open call alone. -/
theorem startBreak (h : CallSound s) (hopen : breakAllowed s.conn = true) : CallSound (startBreak s) :=
  ⟨h.conn, fun _ => (breakAllowed_iff _).1 hopen, h.window, h.held⟩

theorem endBreak (h : CallSound s) : CallSound (endBreak s) := ⟨h.conn, nofun, h.window, h.held⟩

end CallSound

/-- R110, R130: a change of connect state stops a break timer that may not run on. -/
theorem changeConn_sound (hnew : ConnSound new) (hreset : s.resetting = none)
    (hwindow : s.monitor.window = none ↔ new.loop = .localChar) : CallSound (changeConn new s) := by
  have hchanged : CallSound { s with conn := new, signal := s.signal.onChange s.conn new, link := s.link.pendLine } := by
    refine ⟨hnew, fun h => ?_, fun _ => hwindow, fun h => by simp [hreset] at h⟩
    by_contra hopen
    have hclosed : breakAllowed new = false := Bool.not_eq_true _ ▸ mt (breakAllowed_iff new).1 hopen
    simp [Signal.onChange, hclosed] at h
  unfold changeConn
  dsimp only
  split
  · exact hchanged.of_view (judgeHold_leavesCall _).view
  · exact hchanged

/-- R118, R130: a change to a state and a mode in which the monitor runs, made while it runs. -/
theorem changeConn_running (hnew : ConnSound new) (hreset : s.resetting = none) (hwindow : s.monitor.window ≠ none)
    (hloop : new.loop ≠ .localChar) : CallSound (changeConn new s) :=
  changeConn_sound hnew hreset ⟨fun h => absurd h hwindow, fun h => absurd h hloop⟩

/-- R118, R129: an entry to IDLE, from which the monitor runs again where it was idle. -/
theorem enterIdle_sound (h : CallSound s) (hreset : s.resetting = none) : CallSound (enterIdle s) := by
  have hwindow : (monitorAfterTest s).window ≠ none := by
    unfold monitorAfterTest
    split
    · simp [Monitor.restart]
    · next htest => exact h.window_runs hreset (h.conn.loop_ne_local htest).2
  obtain ⟨h1, h2, h3, h4⟩ := changeConn_running (s := { s with monitor := monitorAfterTest s }) (.idle s.conn) hreset hwindow
    (by simp [Conn.to])
  exact ⟨h1, h2, h3, h4⟩

theorem enterOnline_sound (h : CallSound s) (hreset : s.resetting = none) (hstate : s.conn.state ≠ .test) :
    CallSound (enterOnline s) :=
  changeConn_running (.online (h.conn.loop_ne_local hstate) _) hreset
    (h.window_runs hreset (h.conn.loop_ne_local hstate).2) (h.conn.loop_ne_local hstate).2

theorem enterFade_sound (h : CallSound s) (hreset : s.resetting = none) (hstate : s.conn.state ≠ .test) :
    CallSound (enterFade s) :=
  changeConn_running (.fade (h.conn.loop_ne_local hstate) _ _) hreset
    (h.window_runs hreset (h.conn.loop_ne_local hstate).2) (h.conn.loop_ne_local hstate).2

theorem enterSettle_sound (h : CallSound s) (hreset : s.resetting = none) (hstate : s.conn.state = .waitAnswer) :
    CallSound (enterSettle s) := by
  have hloop := h.conn.loop_normal (by simp [hstate]) (by simp [breakAllowed, hstate])
  unfold enterSettle
  rw [hloop]
  exact changeConn_running (.toSettle _ _) hreset (h.window_runs hreset (by simp [hloop])) (by simp [Conn.to])

theorem enterClearing_sound (h : CallSound s) (hreset : s.resetting = none) (hstate : s.conn.state ≠ .test) :
    CallSound (enterClearing s) :=
  changeConn_running (.toClearing _ _) hreset (h.window_runs hreset (h.conn.loop_ne_local hstate).2) (by simp [Conn.to])

/-! ### The window and the timers (R113 to R125) -/

theorem windowJudged_runs (s : State) : (windowJudged s).1.window ≠ none := by
  unfold windowJudged windowPresent windowAbsent
  dsimp only
  split_ifs <;> simp

theorem onPresent_sound (h : CallSound s) (hreset : s.resetting = none) : CallSound (onPresent s) := by
  unfold onPresent
  split
  case h_1 hstate => exact enterSettle_sound h hreset hstate
  case h_2 hstate => exact enterOnline_sound h hreset (by simp [hstate])
  case h_3 hstate =>
    exact (enterOnline_sound h hreset (by simp [hstate])).of_view (t := setLatch .carrierFaded (enterOnline s)) rfl
  all_goals exact h

theorem onAbsent_sound (h : CallSound s) (hreset : s.resetting = none) : CallSound (onAbsent s) := by
  unfold onAbsent
  split
  case h_1 hstate => exact enterFade_sound h hreset (by simp [hstate])
  all_goals exact h

/-- R113: a window ends where one runs, and the next begins. -/
theorem endWindow_sound (h : CallSound s) (hreset : s.resetting = none) (hruns : s.monitor.window ≠ none) :
    CallSound (endWindow s) := by
  have hnext : CallSound { s with monitor := (windowJudged s).1 } :=
    { h with window := fun _ => ⟨fun hw => absurd hw (windowJudged_runs s), fun hl => absurd ((h.window hreset).2 hl) hruns⟩ }
  unfold endWindow
  dsimp only
  split
  · exact hnext
  · exact onPresent_sound hnext hreset
  · exact onAbsent_sound hnext hreset

theorem endSettleTimer_sound (h : CallSound s) (hreset : s.resetting = none) (hruns : s.conn.settleTimer.isSome) :
    CallSound (endSettleTimer s) := by
  have hstate : s.conn.state ≠ .test := by simp [h.conn.settle.1 hruns]
  unfold endSettleTimer
  split
  · exact enterOnline_sound h hreset hstate
  · exact enterFade_sound h hreset hstate

/-! ### Commands (R120, R126, R128, R131) -/

theorem openCall_sound (h : CallSound s) (hreset : s.resetting = none) (hstate : s.conn.state = .idle) (role : Role) :
    CallSound (openCall role s) := by
  have hloop := h.conn.loop_normal (by simp [hstate]) (by simp [breakAllowed, hstate])
  unfold openCall
  rw [hloop]
  exact changeConn_running (.calling role _ _) hreset (by simp [Monitor.restart]) (by simp [Conn.to])

theorem closeCall_sound (h : CallSound s) (hreset : s.resetting = none) : CallSound (closeCall s) := by
  unfold closeCall
  split
  case h_1 hstate => exact enterClearing_sound h hreset (by simp [hstate])
  case h_2 hstate => exact enterClearing_sound h hreset (by simp [hstate])
  case h_3 | h_4 | h_5 => exact enterIdle_sound h hreset
  all_goals exact h

/-- R131: in an open call the mode alone is set. -/
theorem setLoopMode_sound (h : CallSound s) (hreset : s.resetting = none) (hopen : OpenCall s) {loop : LoopMode}
    (hloop : loop ≠ .localTone ∧ loop ≠ .localChar) : CallSound (setLoopMode loop s) := by
  have hstate : s.conn.state ≠ .test := by rcases hopen with e | e <;> simp [e]
  have hold := h.conn.loop_ne_local hstate
  exact ⟨{ h.conn with test := by simp [setLoopMode, hloop, hstate], echo := fun _ => hopen }, h.breakTimer,
    fun _ => ⟨fun hw => absurd hw (h.window_runs hreset hold.2), fun hl => absurd hl hloop.2⟩,
    fun hr => by simp [setLoopMode, hreset] at hr⟩

theorem setLoop_sound (h : CallSound s) (hreset : s.resetting = none) (loop : LoopMode) :
    ∀ t ∈ setLoop loop s, CallSound t := by
  unfold setLoop
  split
  case h_1 =>
    rintro _ ⟨rfl⟩
    exact changeConn_running (by constructor <;> simp [Conn.to]) hreset (by simp [Monitor.restart]) (by simp [Conn.to])
  case h_2 =>
    rintro _ ⟨rfl⟩
    exact changeConn_sound (by constructor <;> simp [Conn.to]) hreset (by simp [Monitor.goIdle, Conn.to])
  case h_3 => rintro _ ⟨rfl⟩; exact enterIdle_sound h hreset
  case h_4 hstate => rintro _ ⟨rfl⟩; exact setLoopMode_sound h hreset (.inl hstate) (by simp)
  case h_5 hstate => rintro _ ⟨rfl⟩; exact setLoopMode_sound h hreset (.inr hstate) (by simp)
  case h_6 hstate => rintro _ ⟨rfl⟩; exact setLoopMode_sound h hreset (.inl hstate) (by simp)
  case h_7 hstate => rintro _ ⟨rfl⟩; exact setLoopMode_sound h hreset (.inr hstate) (by simp)
  case h_8 => simp

/-! ### Resets (R194) -/

theorem enterReset_callSound (cause : Cause) (cfg : Option HeadConfig) (ends : Timer) (s : State) :
    CallSound (enterReset cause cfg ends s) :=
  ⟨by constructor <;> simp [enterReset, State.held, Conn.reset], nofun, nofun, fun _ => rfl⟩

theorem endReset_sound (h : CallSound s) (hreset : s.resetting.isSome) (cause : Cause) : CallSound (endReset cause s) :=
  ⟨h.conn, h.breakTimer, fun _ => by simp [endReset, h.held hreset], nofun⟩

end Sys2Proof.Steps
end

section
/-!
SUPPORT. A reading of the keyboard, a key's action and the keyboard's commands keep the debounce records, the keymap and the
repeat record sound (R138 to R149).
-/

namespace Sys2Proof.Steps

open Sys2Proof.Machine Sys2Proof.Safety Sys2Proof.Laws

variable {s t : State} {k : Keys} {p : Nat}

/-- R147: every layer of a keymap has 72 entries. -/
structure KeymapWhole (m : Keymap) : Prop where
  plain : m.plain.length = 72
  shift : m.shift.length = 72
  ctrl : m.ctrl.length = 72
  fn : m.fn.length = 72

/-- R137, R138, R147, R149: what `KeyboardOk` says apart from each record's own soundness. -/
structure BoardSound (k : Keys) : Prop where
  count : k.records.length = 72
  keymap : KeymapWhole k.keymap
  scanLine : k.scanLine < 8
  debounce : k.debounce ≤ 8
  repeats : k.repeatTimer.isSome ↔ k.repeatCode.isSome

/-- The record of each position meets the position's condition. -/
def RecordsAre (P : Nat → KeyRecord → Prop) (k : Keys) : Prop := ∀ p r, k.records[p]? = some r → P p r

/-- R138: the keyboard block of a sound state. -/
structure KeysSound (k : Keys) : Prop where
  board : BoardSound k
  records : RecordsAre (fun _ => RecordOk) k

theorem KeysSound.iff_keyboardOk : KeysSound s.keys ↔ KeyboardOk s := by
  constructor
  · rintro ⟨⟨h1, ⟨h3, h4, h5, h6⟩, h7, h8, h9⟩, h2⟩
    refine ⟨h1, fun r hr => ?_, h3, h4, h5, h6, h7, h8, h9⟩
    obtain ⟨p, hp⟩ := List.mem_iff_getElem?.1 hr
    exact h2 p r hp
  · rintro ⟨h1, h2, h3, h4, h5, h6, h7, h8, h9⟩
    exact ⟨⟨h1, ⟨h3, h4, h5, h6⟩, h7, h8, h9⟩, fun p r hr => h2 r (List.mem_of_getElem? hr)⟩

theorem BoardSound.of_view (hs : BoardSound s.keys) (h : callView t = callView s) : BoardSound t.keys := by
  obtain ⟨h1, h2, h3, h4, h5⟩ := hs
  have hr : t.keys.records = s.keys.records := congrArg CallView.records h
  have hm : t.keys.keymap = s.keys.keymap := congrArg CallView.keymap h
  have hl : t.keys.scanLine = s.keys.scanLine := congrArg CallView.scanLine h
  have hd : t.keys.debounce = s.keys.debounce := congrArg CallView.debounce h
  have ht : t.keys.repeatTimer = s.keys.repeatTimer := congrArg CallView.repeatTimer h
  have hc : t.keys.repeatCode = s.keys.repeatCode := congrArg CallView.repeatCode h
  exact ⟨hr ▸ h1, hm ▸ h2, hl ▸ h3, hd ▸ h4, by rwa [ht, hc]⟩

theorem RecordsAre.of_view {P : Nat → KeyRecord → Prop} (hs : RecordsAre P s.keys) (h : callView t = callView s) :
    RecordsAre P t.keys := by
  have hr : t.keys.records = s.keys.records := congrArg CallView.records h
  exact fun p r => hr ▸ hs p r

theorem KeysSound.of_view (hs : KeysSound s.keys) (h : callView t = callView s) : KeysSound t.keys :=
  ⟨hs.board.of_view h, hs.records.of_view h⟩

/-! ### One record changed -/

theorem BoardSound.mapRecord (h : BoardSound k) (p : Nat) (f : KeyRecord → KeyRecord) : BoardSound (k.mapRecord p f) :=
  { h with count := (List.length_modify _ _ _).trans h.count }

/-- A record changed at `p` meets what is asked of `p`, and the others stand. -/
theorem RecordsAre.mapRecord {P Q : Nat → KeyRecord → Prop} (h : RecordsAre P k) {f : KeyRecord → KeyRecord}
    (hp : ∀ r, P p r → Q p (f r)) (hother : ∀ q r, q ≠ p → P q r → Q q r) : RecordsAre Q (k.mapRecord p f) := by
  intro q r hr
  rw [Keys.mapRecord, List.getElem?_modify] at hr
  by_cases hq : p = q
  · subst hq
    simp only [↓reduceIte, Option.map_eq_map, Option.map_eq_some_iff] at hr
    obtain ⟨r', hr', rfl⟩ := hr
    exact hp r' (h p r' hr')
  · simp only [hq, ↓reduceIte, Option.map_eq_map, Option.map_id'] at hr
    exact hother q r (Ne.symm hq) (h q r hr)

/-- A record changed in a way that keeps every record's condition. -/
theorem RecordsAre.mapRecord_same {P : Nat → KeyRecord → Prop} (h : RecordsAre P k) {f : KeyRecord → KeyRecord}
    (hp : ∀ r, P p r → P p (f r)) : RecordsAre P (k.mapRecord p f) :=
  h.mapRecord hp fun _ _ _ hq => hq

/-! ### Debounce (R138, R139) -/

/-- R138: a key-down not yet judged: DOWN, with no role and not refused. -/
def FreshDown (r : KeyRecord) : Prop := r.down = true ∧ r.refused = false ∧ r.role = .none ∧ r.count ≤ 8

theorem FreshDown.recordOk {r : KeyRecord} (h : FreshDown r) : RecordOk r := by
  obtain ⟨hdown, hrefused, hrole, hcount⟩ := h
  exact ⟨fun _ => hrefused, fun _ => hrole, hcount⟩

/-- R138: what a debounced record may be: sound where the state stands, and by its edge where it changes. -/
def DebouncedOk : KeyEdge → KeyRecord → Prop
  | .none, r => RecordOk r
  | .down, r => FreshDown r
  | .up, r => r.count ≤ 8

theorem debounce_ok {r : KeyRecord} (h : RecordOk r) {limit : Nat} (hl : limit ≤ 8) (down : Bool) :
    DebouncedOk (r.debounce limit down).2 (r.debounce limit down).1 := by
  obtain ⟨hrefused, hrole, hcount⟩ := h
  unfold KeyRecord.debounce
  split_ifs with hsame hlimit hdown
  · exact ⟨hrefused, hrole, Nat.zero_le _⟩
  · have hup : r.down = false := by cases hr : r.down <;> simp_all
    exact ⟨hdown, hrefused hup, hrole (.inl hup), Nat.zero_le _⟩
  · exact Nat.zero_le _
  · exact ⟨hrefused, hrole, by simp only; omega⟩

theorem firstReading_ok (down : Bool) : RecordOk (KeyRecord.firstReading down) := by
  cases down <;> simp [RecordOk, KeyRecord.firstReading]

/-- R139: the readings of the first pass. -/
theorem firstAll_sound (h : KeysSound k) (ps : List (Nat × Bool)) : KeysSound (k.firstAll ps) :=
  foldl_keeps (P := KeysSound)
    (fun _ _ hb => ⟨hb.board.mapRecord _ _, hb.records.mapRecord_same fun _ _ => firstReading_ok _⟩) ps k h

/-- What a reading's records may be before its edges are handled: those still to go up need their key-up, those gone down wait
for their judgement, the others are sound. -/
def EdgesOwed (ups downs : List Nat) (p : Nat) (r : KeyRecord) : Prop :=
  r.count ≤ 8 ∧ (p ∉ ups → RecordOk r) ∧ (p ∈ downs → FreshDown r)

/-- The position's reading among `ps`, debounced, comes to `edge`. -/
theorem mem_edges (edge : KeyEdge) (ps : List (Nat × Bool)) (k : Keys) (p : Nat) :
    p ∈ k.edges edge ps ↔ ∃ down, (p, down) ∈ ps ∧ ((k.record p).debounce k.debounce down).2 = edge := by
  simp [Keys.edges]

theorem record_of_getElem? {r : KeyRecord} (h : k.records[p]? = some r) : k.record p = r := by
  simp [Keys.record, List.getD, h]

/-- R138: all readings of a drive line debounced, record by record. -/
theorem debounceAll_records (ps : List (Nat × Bool)) (hps : (ps.map Prod.fst).Nodup) (k0 k : Keys) :
    (∀ q, q ∉ ps.map Prod.fst → (ps.foldl (fun k' (p, down) => k'.mapRecord p fun r => (r.debounce k0.debounce down).1) k).records[q]?
        = k.records[q]?)
      ∧ ∀ q down, (q, down) ∈ ps →
        (ps.foldl (fun k' (p, down) => k'.mapRecord p fun r => (r.debounce k0.debounce down).1) k).records[q]?
          = k.records[q]?.map fun r => (r.debounce k0.debounce down).1 := by
  induction ps generalizing k with
  | nil => simp
  | cons x ps ih =>
    obtain ⟨p, d⟩ := x
    obtain ⟨hnotin, hnodup⟩ := List.nodup_cons.1 hps
    obtain ⟨hout, hin⟩ := ih hnodup (k.mapRecord p fun r => (r.debounce k0.debounce d).1)
    refine ⟨fun q hq => ?_, fun q down hq => ?_⟩
    · obtain ⟨hne, hq⟩ := not_or.1 (mt List.mem_cons.2 hq)
      rw [List.foldl_cons, hout q hq, Keys.mapRecord, List.getElem?_modify]
      simp [Ne.symm hne]
    · rw [List.foldl_cons]
      rcases List.mem_cons.1 hq with e | hlater
      · obtain ⟨rfl, rfl⟩ := Prod.mk.inj e
        rw [hout q hnotin, Keys.mapRecord, List.getElem?_modify]
        simp
      · have hne : q ≠ p := by
          rintro rfl
          exact hnotin (List.mem_map.2 ⟨(q, down), hlater, rfl⟩)
        rw [hin q down hlater, Keys.mapRecord, List.getElem?_modify]
        simp [Ne.symm hne]

theorem debounceAll_board (h : BoardSound k) (ps : List (Nat × Bool)) : BoardSound (k.debounceAll ps) :=
  foldl_keeps (P := BoardSound) (fun _ _ hb => hb.mapRecord _ _) ps k h

/-- R138: after a reading the edges are owed, and nothing else. -/
theorem debounceAll_owed (h : KeysSound k) {ps : List (Nat × Bool)} (hps : (ps.map Prod.fst).Nodup) :
    RecordsAre (EdgesOwed (k.edges .up ps) (k.edges .down ps)) (k.debounceAll ps) := by
  obtain ⟨hout, hin⟩ := debounceAll_records ps hps k k
  intro q r hr
  by_cases hq : q ∈ ps.map Prod.fst
  · obtain ⟨⟨q, down⟩, hmem, rfl⟩ := List.mem_map.1 hq
    obtain ⟨r0, hr0, rfl⟩ := Option.map_eq_some_iff.1 ((hin q down hmem).symm.trans hr)
    have hok := debounce_ok (h.records q r0 hr0) h.board.debounce down
    have hrec : k.record q = r0 := record_of_getElem? hr0
    have hedge (edge : KeyEdge) : q ∈ k.edges edge ps ↔ (r0.debounce k.debounce down).2 = edge := by
      rw [mem_edges, hrec]
      refine ⟨?_, fun he => ⟨down, hmem, he⟩⟩
      rintro ⟨down', hmem', he⟩
      obtain rfl : down' = down := by
        have := List.inj_on_of_nodup_map hps hmem' hmem rfl
        exact (Prod.mk.inj this).2
      exact he
    simp only [EdgesOwed, hedge]
    generalize (r0.debounce k.debounce down).2 = edge at hok
    cases edge with
    | none => exact ⟨hok.2.2, fun _ => hok, nofun⟩
    | up => exact ⟨hok, fun h => absurd rfl h, nofun⟩
    | down => exact ⟨hok.2.2.2, fun _ => FreshDown.recordOk hok, fun _ => hok⟩
  · have hok := h.records q r ((hout q hq).symm.trans hr)
    have hnot (edge : KeyEdge) : q ∉ k.edges edge ps := fun he => by
      obtain ⟨down, hmem, -⟩ := (mem_edges edge ps k q).1 he
      exact hq (List.mem_map_of_mem (f := Prod.fst) hmem)
    exact ⟨hok.2.2, fun _ => hok, fun he => absurd he (hnot _)⟩

/-! ### Key-ups, ghosts and key-downs (R141 to R149) -/

theorem stopRepeat_board (h : BoardSound k) : BoardSound k.stopRepeat := { h with repeats := by simp [Keys.stopRepeat] }

/-- R143: a key-up settles what its position owes. -/
theorem keyUp_owed {ups downs : List Nat} (hp : p ∉ downs) (h : BoardSound k) (hr : RecordsAre (EdgesOwed (p :: ups) downs) k) :
    BoardSound (k.keyUp p) ∧ RecordsAre (EdgesOwed ups downs) (k.keyUp p) := by
  have hrecords : RecordsAre (EdgesOwed ups downs) (k.mapRecord p fun r => { r with refused := false, role := .none }) := by
    refine hr.mapRecord ?_ ?_
    · rintro r ⟨hcount, -, -⟩
      exact ⟨hcount, fun _ => ⟨fun _ => rfl, fun _ => rfl, hcount⟩, fun hd => absurd hd hp⟩
    · rintro q r hq ⟨hcount, hok, hfresh⟩
      exact ⟨hcount, fun hu => hok (by simp [hq, hu]), hfresh⟩
  unfold Keys.keyUp
  dsimp only
  split
  · exact ⟨stopRepeat_board (h.mapRecord _ _), hrecords⟩
  · exact ⟨h.mapRecord _ _, hrecords⟩

theorem keyUps_owed {ups downs : List Nat} (hdisjoint : ∀ p ∈ ups, p ∉ downs) (h : BoardSound k)
    (hr : RecordsAre (EdgesOwed ups downs) k) :
    BoardSound (ups.foldl Keys.keyUp k) ∧ RecordsAre (EdgesOwed [] downs) (ups.foldl Keys.keyUp k) := by
  induction ups generalizing k with
  | nil => exact ⟨h, hr⟩
  | cons p ups ih =>
    obtain ⟨h1, hr1⟩ := keyUp_owed (hdisjoint p List.mem_cons_self) h hr
    exact ih (fun q hq => hdisjoint q (List.mem_cons_of_mem p hq)) h1 hr1

/-- R141, R142: a fresh key-down is refused. -/
theorem refuse_owed {downs rest : List Nat} (hr : RecordsAre (EdgesOwed [] downs) k) (hp : p ∈ downs) (hrest : p ∉ rest)
    (hsub : ∀ q ∈ rest, q ∈ downs) :
    RecordsAre (EdgesOwed [] rest) (k.mapRecord p fun r => { r with refused := true }) := by
  refine hr.mapRecord ?_ ?_
  · rintro r ⟨hcount, -, hfresh⟩
    obtain ⟨hdown, -, hrole, -⟩ := hfresh hp
    exact ⟨hcount, fun _ => ⟨fun h => by simp [hdown] at h, fun _ => hrole, hcount⟩, fun h => absurd h hrest⟩
  · rintro q r - ⟨hcount, hok, hfresh⟩
    exact ⟨hcount, hok, fun h => hfresh (hsub q h)⟩

/-- R144, R145: a fresh key-down is given its role. -/
theorem accept_owed {downs rest : List Nat} (hr : RecordsAre (EdgesOwed [] downs) k) (hp : p ∈ downs) (hrest : p ∉ rest)
    (hsub : ∀ q ∈ rest, q ∈ downs) (role : KeyRole) :
    RecordsAre (EdgesOwed [] rest) (k.mapRecord p fun r => { r with role := role }) := by
  refine hr.mapRecord ?_ ?_
  · rintro r ⟨hcount, -, hfresh⟩
    obtain ⟨hdown, hrefused, -, -⟩ := hfresh hp
    exact ⟨hcount, fun _ => ⟨fun _ => hrefused, fun h => by simp [hdown, hrefused] at h, hcount⟩, fun h => absurd h hrest⟩
  · rintro q r - ⟨hcount, hok, hfresh⟩
    exact ⟨hcount, hok, fun h => hfresh (hsub q h)⟩

/-- R141: the ghosts among the key-downs are refused, and the rest stay fresh. -/
theorem ghosts_owed {ghosts rest : List Nat} (hnodup : (ghosts ++ rest).Nodup) (h : BoardSound k)
    (hr : RecordsAre (EdgesOwed [] (ghosts ++ rest)) k) :
    BoardSound (ghosts.foldl Keys.refuseGhost k) ∧ RecordsAre (EdgesOwed [] rest) (ghosts.foldl Keys.refuseGhost k) := by
  induction ghosts generalizing k with
  | nil => exact ⟨h, hr⟩
  | cons p ghosts ih =>
    obtain ⟨hp, hnodup⟩ := List.nodup_cons.1 hnodup
    have hrefused := refuse_owed hr List.mem_cons_self hp fun q hq => List.mem_cons_of_mem p hq
    exact ih hnodup { h.mapRecord p fun r => { r with refused := true } with } hrefused

/-- R149: the repeat record names a code exactly when its timer runs. -/
theorem newRepeat_board (h : BoardSound k) (p : Nat) (e : KeyEntry) (due : Micros) : BoardSound (k.newRepeat p e due) := by
  unfold Keys.newRepeat
  split <;> exact { h with repeats := by simp }

theorem newRepeat_records {P : Nat → KeyRecord → Prop} (h : RecordsAre P k) (p : Nat) (e : KeyEntry) (due : Micros) :
    RecordsAre P (k.newRepeat p e due) := by
  unfold Keys.newRepeat
  split <;> exact h

/-! ### A key-down judged (R142 to R146) -/

theorem offerKey_leavesCall (c : KeyChar) (s : State) : LeavesCall s (offerKey c s) := by
  unfold offerKey
  split <;> exact .still rfl

/-- R145, R146: an entry that acts starts a break in an open call, or leaves the call and the records. -/
theorem actEntry_cases (e : KeyEntry) (s : State) :
    (breakAllowed s.conn = true ∧ actEntry e s = startBreak s) ∨ LeavesCall s (actEntry e s) := by
  unfold actEntry
  split
  · exact .inr (offerKey_leavesCall _ s)
  · unfold keyAction
    split
    · split
      · next hopen => exact .inl ⟨hopen, rfl⟩
      · exact .inr (.still rfl)
    · exact .inr (.still rfl)
    · exact .inr ((judgeHold_leavesCall _).of_still rfl)
  · exact .inr (.still rfl)
  · exact .inr (.still rfl)

/-- R140: the call is sound, and of the keyboard the key-downs `downs` are still to be judged. -/
structure Judging (downs : List Nat) (s : State) : Prop where
  call : CallSound s
  board : BoardSound s.keys
  records : RecordsAre (EdgesOwed [] downs) s.keys

theorem Judging.keysSound (h : Judging [] s) : KeysSound s.keys := ⟨h.board, fun p r hr => (h.records p r hr).2.1 List.not_mem_nil⟩

theorem Judging.of_view {downs : List Nat} (hs : Judging downs s) (h : callView t = callView s) : Judging downs t :=
  ⟨hs.call.of_view h, hs.board.of_view h, hs.records.of_view h⟩

theorem actEntry_judging {downs : List Nat} (h : Judging downs s) (e : KeyEntry) : Judging downs (actEntry e s) := by
  rcases actEntry_cases e s with ⟨hopen, e⟩ | hleaves
  · rw [e]
    exact ⟨h.call.startBreak hopen, h.board, h.records⟩
  · exact h.of_view hleaves.view

/-- R142, R144, R145: the first key-down is judged. -/
theorem keyDown_judging {rest : List Nat} (hp : p ∉ rest) (h : Judging (p :: rest) s) : Judging rest (keyDown p s) := by
  have hsub : ∀ q ∈ rest, q ∈ p :: rest := fun q hq => List.mem_cons_of_mem p hq
  have hmem : p ∈ p :: rest := List.mem_cons_self
  unfold keyDown
  split
  · next m _ =>
    exact ⟨h.call.setKeys _, { h.board.mapRecord p fun r => { r with role := m.role } with },
      accept_owed h.records hmem hp hsub m.role⟩
  · split
    · exact ⟨h.call.setKeys _, h.board.mapRecord p _, refuse_owed h.records hmem hp hsub⟩
    · exact actEntry_judging ⟨h.call.setKeys _, newRepeat_board (h.board.mapRecord p _) _ _ _,
        newRepeat_records (accept_owed h.records hmem hp hsub .nonModifier) _ _ _⟩ _

theorem keyDowns_judging {downs : List Nat} (hnodup : downs.Nodup) (h : Judging downs s) :
    Judging [] (downs.foldl (fun s' p => keyDown p s') s) := by
  induction downs generalizing s with
  | nil => exact h
  | cons p downs ih =>
    obtain ⟨hp, hnodup⟩ := List.nodup_cons.1 hnodup
    exact ih hnodup (keyDown_judging hp h)

/-- R140: the edges of a reading are handled: the key-ups, the ghosts, then the other key-downs. -/
theorem handleEdges_sound {ups downs : List Nat} (hcall : CallSound s) (hboard : BoardSound s.keys)
    (hrecords : RecordsAre (EdgesOwed ups downs) s.keys) (hdisjoint : ∀ p ∈ ups, p ∉ downs) (hnodup : downs.Nodup) :
    Judging [] (handleEdges ups downs s) := by
  obtain ⟨hups, hupsRecords⟩ := keyUps_owed hdisjoint hboard hrecords
  unfold handleEdges
  dsimp only
  generalize ups.foldl Keys.keyUp s.keys = k1 at hups hupsRecords
  have hrest : downs.filter (fun p => !(downs.filter k1.isGhost).contains p) = downs.filter fun p => !k1.isGhost p := by
    refine List.filter_congr fun p hp => ?_
    simp [List.contains_eq_mem, List.mem_filter, hp]
  rw [hrest]
  have hperm : (downs.filter k1.isGhost ++ downs.filter fun p => !k1.isGhost p).Perm downs := List.filter_append_perm _ _
  obtain ⟨hghosts, hghostRecords⟩ := ghosts_owed (hperm.nodup_iff.2 hnodup) hups fun p r hr => by
    obtain ⟨hcount, hok, hfresh⟩ := hupsRecords p r hr
    exact ⟨hcount, hok, fun hp => hfresh (hperm.mem_iff.1 hp)⟩
  exact keyDowns_judging (hnodup.filter _) ⟨hcall.setKeys _, hghosts, hghostRecords⟩

/-! ### A reading of a drive line (R137 to R140) -/

theorem linePositions_nodup (closed : List Nat) (d : Nat) : ((linePositions d (readings closed d)).map Prod.fst).Nodup := by
  unfold linePositions
  rw [List.map_fst_zip (by simp [readings])]
  exact List.nodup_range' 1

theorem edges_nodup {ps : List (Nat × Bool)} (hps : (ps.map Prod.fst).Nodup) (edge : KeyEdge) (k : Keys) : (k.edges edge ps).Nodup :=
  hps.sublist (List.filter_sublist.map _)

/-- R138: a position's reading has one edge. -/
theorem edges_disjoint {ps : List (Nat × Bool)} (hps : (ps.map Prod.fst).Nodup) (k : Keys) :
    ∀ p ∈ k.edges .up ps, p ∉ k.edges .down ps := by
  intro p hup hdown
  obtain ⟨b, hb, hup⟩ := (mem_edges .up ps k p).1 hup
  obtain ⟨b', hb', hdown⟩ := (mem_edges .down ps k p).1 hdown
  obtain ⟨-, rfl⟩ := Prod.mk.inj (List.inj_on_of_nodup_map hps hb hb' rfl)
  simp [hup] at hdown

theorem nextSlot_board (h : BoardSound k) (t : Micros) : BoardSound (k.nextSlot t) :=
  { h with scanLine := Nat.mod_lt _ (by decide) }

/-- R137 to R140: a reading of the drive line that is due. -/
theorem scanReading_keeps (hcall : CallSound s) (h : KeysSound s.keys) (closed : List Nat) :
    Judging [] (scanReading closed s) := by
  have hslot : KeysSound (s.keys.nextSlot s.now) := ⟨nextSlot_board h.board _, h.records⟩
  have hps := linePositions_nodup closed s.keys.scanLine
  unfold scanReading
  dsimp only
  split
  · have hfirst := firstAll_sound hslot (linePositions s.keys.scanLine (readings closed s.keys.scanLine))
    exact ⟨hcall.setKeys _, hfirst.board, fun p r hr => ⟨(hfirst.records p r hr).2.2, fun _ => hfirst.records p r hr, nofun⟩⟩
  · exact handleEdges_sound (hcall.setKeys _) (debounceAll_board hslot.board _) (debounceAll_owed hslot hps) (edges_disjoint hps _)
      (edges_nodup hps _ _)

/-! ### Auto-repeat and the commands (R147, R149, R152) -/

theorem endRepeat_keeps (h : KeysSound s.keys) (hruns : s.keys.repeatTimer.isSome) : KeysSound (endRepeat s).keys := by
  have hcode := h.board.repeats.1 hruns
  have hnext (n : Nat) : KeysSound { s.keys with repeatTimer := some n } :=
    ⟨{ h.board with repeats := by simpa using hcode }, h.records⟩
  unfold endRepeat
  dsimp only
  split
  · split
    · exact KeysSound.of_view (s := { s with keys := _ }) (hnext _) (offerKey_leavesCall _ _).view
    · exact hnext _
  · exact hnext _

theorem replaceFrom_length {first : Nat} {new old : List KeyEntry} (h : first + new.length ≤ old.length) :
    (replaceFrom first new old).length = old.length := by
  simp only [replaceFrom, List.length_append, List.length_take, List.length_drop]
  omega

theorem replace_whole {m : Keymap} (h : KeymapWhole m) (l : Layer) {first : Nat} {es : List KeyEntry}
    (hfits : first + es.length ≤ 72) : KeymapWhole (m.replace l first es) := by
  obtain ⟨hplain, hshift, hctrl, hfn⟩ := h
  have whole {old : List KeyEntry} (hold : old.length = 72) : (replaceFrom first es old).length = 72 :=
    (replaceFrom_length (hold ▸ hfits)).trans hold
  cases l with
  | plain => exact ⟨whole hplain, hshift, hctrl, hfn⟩
  | shift => exact ⟨hplain, whole hshift, hctrl, hfn⟩
  | ctrl => exact ⟨hplain, hshift, whole hctrl, hfn⟩
  | fn => exact ⟨hplain, hshift, hctrl, whole hfn⟩

/-- R147: LOAD KEYMAP's entries end within the layer. -/
theorem readKeymap_ok {p : List Byte} {x : Layer × Nat × List KeyEntry} (h : readKeymap p = .ok x) :
    x.2.1 + x.2.2.length ≤ 72 := by
  unfold readKeymap at h
  split at h
  · split_ifs at h
    split at h
    · split_ifs at h with hfits
      obtain rfl := Except.ok.inj h
      exact hfits
    · simp at h
  · simp at h

theorem readKeys_ok {p : List Byte} {x : KeySettings × Bool} (h : readKeys p = .ok x) : x.1.debounce ≤ 8 := by
  unfold readKeys at h
  split at h
  · split at h
    · obtain rfl := Except.ok.inj h
      exact (clampNat_bounds (by decide) _).2
    · simp at h
  · simp at h

theorem setKeys_keysSound (h : KeysSound s.keys) (p : List Byte) : KeysSound (actSetKeys p s).1.keys := by
  unfold actSetKeys
  cases hr : readKeys p with
  | error reason => exact h
  | ok x => exact ⟨{ h.board with debounce := readKeys_ok hr }, h.records⟩

theorem loadKeymap_keysSound (h : KeysSound s.keys) (p : List Byte) : KeysSound (actLoadKeymap p s).1.keys := by
  unfold actLoadKeymap
  cases hr : readKeymap p with
  | error reason => exact h
  | ok x => exact ⟨{ h.board with keymap := replace_whole h.board.keymap x.1 (readKeymap_ok hr) }, h.records⟩

/-! ### Resets (R154) -/

theorem keysReset_sound : KeysSound .reset := by
  refine ⟨⟨by decide, ⟨by decide, by decide, by decide, by decide⟩, by decide, by decide, by decide⟩, fun p r hr => ?_⟩
  obtain rfl := List.eq_of_mem_replicate (List.mem_of_getElem? hr)
  simp [RecordOk, KeyRecord.reset]

end Sys2Proof.Steps
end

section
/-!
O57: every step keeps the connection's timers and the keyboard's records sound. The rows that leave the call and the records are
`exec_leavesCall`; each other row moves the one or the other.
-/

namespace Sys2Proof.Steps

open Sys2Proof.Machine Sys2Proof.Safety Sys2Proof.Laws

variable {s t : State}

/-- R110 to R149: the two invariants together. -/
structure CallAndKeys (s : State) : Prop where
  call : CallSound s
  keys : KeysSound s.keys

theorem CallAndKeys.of_view (hs : CallAndKeys s) (h : callView t = callView s) : CallAndKeys t :=
  ⟨hs.call.of_view h, hs.keys.of_view h⟩

/-! ### The connection's operations leave the keyboard alone -/

theorem changeConn_keys (new : Conn) (s : State) : (changeConn new s).keys = s.keys := by
  obtain ⟨g, h, f, k, e⟩ := changeConn_touches s new
  rw [e]

theorem enterIdle_keys (s : State) : (enterIdle s).keys = s.keys := by
  obtain ⟨c, g, m, r, k, e⟩ := enterIdle_touches s
  rw [e]

theorem onPresent_keys (s : State) : (onPresent s).keys = s.keys := by
  unfold onPresent
  split
  case h_1 | h_2 | h_3 => exact changeConn_keys _ s
  all_goals rfl

theorem onAbsent_keys (s : State) : (onAbsent s).keys = s.keys := by
  unfold onAbsent
  split
  case h_1 => exact changeConn_keys _ s
  all_goals rfl

theorem endWindow_keys (s : State) : (endWindow s).keys = s.keys := by
  unfold endWindow
  dsimp only
  split
  · rfl
  · rw [onPresent_keys]
  · rw [onAbsent_keys]

theorem endSettleTimer_keys (s : State) : (endSettleTimer s).keys = s.keys := by
  unfold endSettleTimer
  split <;> exact changeConn_keys _ s

theorem closeCall_keys (s : State) : (closeCall s).keys = s.keys := by
  unfold closeCall
  split
  case h_1 | h_2 => exact changeConn_keys _ s
  case h_3 | h_4 | h_5 => exact enterIdle_keys s
  all_goals rfl

theorem setLoop_keys (loop : LoopMode) (s : State) : ∀ t ∈ setLoop loop s, t.keys = s.keys := by
  unfold setLoop
  split
  case h_1 | h_2 => rintro _ ⟨rfl⟩; exact changeConn_keys _ _
  case h_3 => rintro _ ⟨rfl⟩; exact enterIdle_keys s
  case h_4 | h_5 | h_6 | h_7 => rintro _ ⟨rfl⟩; rfl
  case h_8 => simp

/-- A change of the connection that leaves the keyboard. -/
theorem CallAndKeys.of_call (hs : CallAndKeys s) (hkeys : t.keys = s.keys) (ht : CallSound t) : CallAndKeys t :=
  ⟨ht, hkeys ▸ hs.keys⟩

theorem enterIdle_callAndKeys (hs : CallAndKeys s) (hreset : s.resetting = none) : CallAndKeys (enterIdle s) :=
  hs.of_call (enterIdle_keys s) (enterIdle_sound hs.call hreset)

/-! ### Rows -/

/-- R194: what the end of a row keeps, a row keeps whose effect keeps it outside a reset. -/
theorem row_running_keeps {P : State → Prop} (settle : ∀ s, P s → P (settleRow s)) {f : State → State} (hs : P s)
    (e : row f s = .next t) (hf : s.resetting = none → P (f s)) : P t := by
  rcases row_cases f s with ⟨-, e'⟩ | ⟨hreset, e'⟩ <;> rw [e'] at e <;> obtain rfl := Host.Outcome.next.inj e
  · exact hs
  · exact settle _ (hf hreset)

theorem timerRow_running_keeps {P : State → Prop} (settle : ∀ s, P s → P (settleRow s)) {timer : State → Timer}
    {f : State → State} (hs : P s) (e : timerRow timer f s = .next t)
    (hf : ∀ due, s.resetting = none → timer s = some due → P (f (atMoment due s))) : P t := by
  rcases timerRow_cases timer f s with e' | ⟨due, hdue, hreset, e'⟩ <;> rw [e'] at e <;> obtain rfl := Host.Outcome.next.inj e
  · exact hs
  · exact settle _ (hf due hreset hdue)

theorem settleRow_callAndKeys (s : State) (hs : CallAndKeys s) : CallAndKeys (settleRow s) :=
  hs.of_view (settleRow_leavesCall s).view

section
variable {f : State → State}

theorem row_callAndKeys (hs : CallAndKeys s) (e : row f s = .next t) (hf : s.resetting = none → CallAndKeys (f s)) :
    CallAndKeys t :=
  row_running_keeps settleRow_callAndKeys hs e hf

theorem timerRow_callAndKeys {timer : State → Timer} (hs : CallAndKeys s) (e : timerRow timer f s = .next t)
    (hf : ∀ due, s.resetting = none → timer s = some due → CallAndKeys (f (atMoment due s))) : CallAndKeys t :=
  timerRow_running_keeps settleRow_callAndKeys hs e hf

/-- A command outside a reset keeps the two invariants. -/
def ActKeepsCall (act : State → State × Reply) : Prop :=
  ∀ s, s.resetting = none → CallAndKeys s → CallAndKeys (act s).1

theorem commandRow_callAndKeys {act : State → State × Reply} {kind : Byte} {dt : Micros} {p : List Byte}
    (hact : ActKeepsCall act) (hs : CallAndKeys s) (e : commandRow kind dt p act s = .next t) : CallAndKeys t := by
  refine row_callAndKeys hs e fun hreset => ?_
  rcases complete_cases (kind := kind) (p := p) act (after dt s) with e | e | ⟨-, e⟩ <;> rw [e]
  · exact hs.of_view rfl
  · exact hs.of_view rfl
  · exact (hact (closeFrame (after dt s)) hreset (hs.of_view rfl)).of_view rfl

end

/-! ### Commands -/

/-- R180: a command refused at its judgement changes nothing. -/
theorem answer_keepsCall {α : Type} (kind : Byte) (read : Except Reason α) {act : α → State → State × Reply}
    (h : ∀ x, ActKeepsCall (act x)) : ActKeepsCall (answer kind read act) := by
  intro s hreset hs
  cases read with
  | error reason => exact hs
  | ok x => exact h x s hreset hs

theorem connect_keepsCall (p : List Byte) : ActKeepsCall (actConnect p) := by
  refine answer_keepsCall _ _ fun role s hreset hs => ?_
  split
  · next hidle => exact hs.of_call (changeConn_keys _ _) (openCall_sound hs.call hreset hidle role)
  · exact hs

theorem disconnect_keepsCall (p : List Byte) : ActKeepsCall (actDisconnect p) :=
  answer_keepsCall _ _ fun _ s hreset hs => hs.of_call (closeCall_keys s) (closeCall_sound hs.call hreset)

theorem break_keepsCall (p : List Byte) : ActKeepsCall (actBreak p) := by
  refine answer_keepsCall _ _ fun _ s _ hs => ?_
  split
  · next hopen => exact hs.of_call rfl (hs.call.startBreak hopen)
  · exact hs

theorem setLoop_keepsCall (p : List Byte) : ActKeepsCall (actSetLoop p) := by
  refine answer_keepsCall _ _ fun loop s hreset hs => ?_
  split
  · next t ht => exact hs.of_call (setLoop_keys loop s t ht) (setLoop_sound hs.call hreset loop t ht)
  · exact hs

theorem setKeys_keepsCall (p : List Byte) : ActKeepsCall (actSetKeys p) := by
  intro s _ hs
  refine ⟨?_, setKeys_keysSound hs.keys p⟩
  unfold actSetKeys
  cases readKeys p with
  | error reason => exact hs.call
  | ok x => exact hs.call.setKeys _

theorem loadKeymap_keepsCall (p : List Byte) : ActKeepsCall (actLoadKeymap p) := by
  intro s _ hs
  refine ⟨?_, loadKeymap_keysSound hs.keys p⟩
  unfold actLoadKeymap
  cases readKeymap p with
  | error reason => exact hs.call
  | ok x => exact hs.call.setKeys _

/-! ### Resets and every row -/

theorem enterReset_callAndKeys (cause : Cause) (cfg : Option HeadConfig) (ends : Timer) (s : State) :
    CallAndKeys (enterReset cause cfg ends s) :=
  ⟨enterReset_callSound cause cfg ends s, keysReset_sound⟩

/-- R195: at the end of RESTART's reply a reset begins. -/
theorem endFrame_callAndKeys (hs : CallAndKeys s) : CallAndKeys (endFrame s) := by
  unfold endFrame endTxFrame
  split
  · exact hs
  · dsimp only
    split
    · exact enterReset_callAndKeys _ _ _ _
    · exact hs.of_view rfl

theorem endReset_callAndKeys (hs : CallAndKeys s) (hreset : s.resetting.isSome) (cause : Cause) :
    CallAndKeys (endReset cause s) :=
  ⟨endReset_sound hs.call hreset cause, ⟨{ hs.keys.board with }, hs.keys.records⟩⟩

theorem resetMoment_leavesCall (dt : Micros) (s : State) : LeavesCall s (resetMoment dt s) := by
  unfold resetMoment
  split <;> exact .still rfl

theorem framerTake_call (s : State) : callView (framerTake s) = callView s := by
  unfold framerTake
  split
  · split
    · rfl
    · split
      · split <;> rfl
      · rfl
  · rfl

theorem endRepeat_callSound (hs : CallSound s) : CallSound (endRepeat s) := by
  unfold endRepeat
  dsimp only
  split
  · split
    · exact (hs.setKeys _).of_view (offerKey_leavesCall _ _).view
    · exact hs.setKeys _
  · exact hs.setKeys _

/-- Every row keeps the two invariants. -/
theorem exec_callAndKeys (i : Instr) (hs : CallAndKeys s) (e : exec i s = .next t) : CallAndKeys t := by
  have due (m : Micros) : CallAndKeys (atMoment m s) := hs.of_view rfl
  by_cases hi : movesCall i = false
  · exact hs.of_view (exec_leavesCall i hi e).view
  cases i <;> first | exact absurd rfl hi | dsimp only [exec] at e
  case connect dt p => exact commandRow_callAndKeys (connect_keepsCall p) hs e
  case disconnect dt p => exact commandRow_callAndKeys (disconnect_keepsCall p) hs e
  case sendBreak dt p => exact commandRow_callAndKeys (break_keepsCall p) hs e
  case setLoop dt p => exact commandRow_callAndKeys (setLoop_keepsCall p) hs e
  case setKeys dt p => exact commandRow_callAndKeys (setKeys_keepsCall p) hs e
  case loadKeymap dt p => exact commandRow_callAndKeys (loadKeymap_keepsCall p) hs e
  case linkFrameEnd => exact timerRow_callAndKeys hs e fun m _ _ => endFrame_callAndKeys (due m)
  case powerUpReset dt => exact Host.Outcome.next.inj e ▸ enterReset_callAndKeys _ _ _ _
  case generalResetFromPin dt => exact Host.Outcome.next.inj e ▸ enterReset_callAndKeys _ _ _ _
  case resetEnd dt =>
    unfold execResetEnd at e
    split at e <;> obtain rfl := Host.Outcome.next.inj e
    · exact hs
    · next cause hcause =>
      have hmoment := resetMoment_leavesCall dt s
      exact settleRow_callAndKeys _
        (endReset_callAndKeys (hs.of_view hmoment.view) (by simp [hmoment.resetting, hcause]) cause)
  case framerTake => exact row_callAndKeys hs e fun _ => hs.of_view (framerTake_call s)
  case breakTimerExpiry => exact timerRow_callAndKeys hs e fun m _ _ => (due m).of_call rfl (due m).call.endBreak
  case carrierWindowEnd =>
    exact timerRow_callAndKeys hs e fun m hreset hruns =>
      (due m).of_call (endWindow_keys _) (endWindow_sound (due m).call hreset (by simp [hruns]))
  case connectTimerExpiry =>
    exact timerRow_callAndKeys hs e fun m hreset _ => (enterIdle_callAndKeys (due m) hreset).of_view rfl
  case settleTimerExpiry =>
    exact timerRow_callAndKeys hs e fun m hreset hruns =>
      (due m).of_call (endSettleTimer_keys _) (endSettleTimer_sound (due m).call hreset (by simp [hruns]))
  case dropoutTimerExpiry =>
    exact timerRow_callAndKeys hs e fun m hreset _ => (enterIdle_callAndKeys (due m) hreset).of_view rfl
  case clearingTimerExpiry => exact timerRow_callAndKeys hs e fun m hreset _ => enterIdle_callAndKeys (due m) hreset
  case scanReading closed =>
    exact timerRow_callAndKeys hs e fun m _ _ =>
      have hjudged := scanReading_keeps (due m).call (due m).keys closed
      ⟨hjudged.call, hjudged.keysSound⟩
  case repeatTimerExpiry =>
    exact timerRow_callAndKeys hs e fun m _ hruns =>
      ⟨endRepeat_callSound (due m).call, endRepeat_keeps (due m).keys (by simp [hruns])⟩

/-- Settles O57: a sound state's call and keyboard are sound, and `exec_callAndKeys`. -/
theorem callAndKeysStaySound : Obligations.CallAndKeysStaySound := by
  intro s t hs e
  have h : CallAndKeys s := ⟨CallSound.iff_connectionOk.2 hs.connection, KeysSound.iff_keyboardOk.2 hs.keyboard⟩
  have ht : CallAndKeys t := by
    unfold step at e
    split at e
    · exact Host.Outcome.next.inj e ▸ h
    · next i rest hpending =>
      exact exec_callAndKeys i (s := { s with pending := rest }) (h.of_view rfl) e
  exact ⟨CallSound.iff_connectionOk.1 ht.call, KeysSound.iff_keyboardOk.1 ht.keys⟩

end Sys2Proof.Steps
end

section
/-!
O60: the flow codes sent strictly alternate. Every row but FRAMER_TAKE lets the order of the flow codes stand, or begins it anew
with a hold; FRAMER_TAKE sends the code that was due.
-/

namespace Sys2Proof.Steps

open Sys2Proof.Machine Sys2Proof.Safety Sys2Proof.Laws

variable {s t u : State}

/-- What decides the order of the flow codes and when it begins anew. -/
def flowView (s : State) : Option FlowCode × Bool × Option Cause × ConnState :=
  (s.router.slot, s.router.holdSent, s.resetting, s.conn.state)

/-- R171: the next kind stands; no reset begins and IDLE is not entered. -/
structure FlowStands (s t : State) : Prop where
  flow : KeepsFlow s t
  running : s.resetting = none → t.resetting = none
  away : t.conn.state = .idle → s.conn.state = .idle

/-- R171, R174, R194: a reset begins or IDLE is entered, and the next kind is a hold. -/
structure FlowAnew (s t : State) : Prop where
  agrees : SlotAgrees t
  hold : nextFlow t = .hold
  begins : (s.resetting = none ∧ t.resetting ≠ none) ∨ (s.conn.state ≠ .idle ∧ t.conn.state = .idle)

/-- What a row that sends no flow code does to their order. -/
def FlowMoves (s t : State) : Prop := FlowAnew s t ∨ FlowStands s t

namespace FlowStands

theorem still (h : flowView t = flowView s) : FlowStands s t := by
  simp only [flowView, Prod.mk.injEq] at h
  obtain ⟨hslot, hsent, hreset, hstate⟩ := h
  exact ⟨.of_slot hslot hsent, hreset.trans, hstate.symm.trans⟩

theorem trans (h : FlowStands s t) (h' : FlowStands t u) : FlowStands s u :=
  ⟨h.flow.trans h'.flow, fun hs => h'.running (h.running hs), fun hu => h.away (h'.away hu)⟩

theorem of_still (h : FlowStands t u) (hsame : flowView t = flowView s) : FlowStands s u := (still hsame).trans h

end FlowStands

theorem LeavesCall.flowStands (h : LeavesCall s t) : FlowStands s t :=
  ⟨h.flow, h.resetting.trans, fun ht => h.conn ▸ ht⟩

/-- R171: the router as a reset or an entry to IDLE leaves it. -/
theorem cleared_flow (hslot : t.router.slot = none) (hsent : t.router.holdSent = false) : SlotAgrees t ∧ nextFlow t = .hold := by
  simp [SlotAgrees, nextFlow, hslot, hsent]

theorem FlowAnew.leaves (h : FlowAnew s t) (h' : LeavesCall t u) : FlowAnew s u := by
  obtain ⟨hagrees, hhold, hbegins⟩ := h
  obtain ⟨hagrees', hnext⟩ := h'.flow hagrees
  exact ⟨hagrees', hnext.trans hhold, h'.resetting ▸ h'.conn ▸ hbegins⟩

theorem FlowMoves.leaves (h : FlowMoves s t) (h' : LeavesCall t u) : FlowMoves s u :=
  h.imp (·.leaves h') (·.trans h'.flowStands)

/-- A row begins with what leaves the order alone. -/
theorem FlowMoves.of_still (h : FlowMoves t u) (hsame : flowView t = flowView s) : FlowMoves s u := by
  rcases h with ⟨hagrees, hhold, hbegins⟩ | h
  · simp only [flowView, Prod.mk.injEq] at hsame
    obtain ⟨-, -, hreset, hstate⟩ := hsame
    exact .inl ⟨hagrees, hhold, by rwa [hreset, hstate] at hbegins⟩
  · exact .inr (h.of_still hsame)

/-! ### The connection (R118 to R131, R174) -/

theorem changeConn_stands {new : Conn} (hnew : new.state ≠ .idle) (s : State) : FlowStands s (changeConn new s) := by
  have hmove : FlowStands s { s with conn := new, signal := s.signal.onChange s.conn new, link := s.link.pendLine } :=
    ⟨.of_slot rfl rfl, id, fun h => absurd h hnew⟩
  unfold changeConn
  dsimp only
  split
  · exact hmove.trans (judgeHold_leavesCall _).flowStands
  · exact hmove

theorem changeConn_state (new : Conn) (s : State) : (changeConn new s).conn = new := by
  obtain ⟨g, h, f, k, e⟩ := changeConn_touches s new
  rw [e]

theorem enterIdle_anew (hstate : s.conn.state ≠ .idle) : FlowAnew s (enterIdle s) := by
  have hidle : (enterIdle s).conn.state = .idle :=
    congrArg Conn.state (changeConn_state (s.conn.to .idle .normal) { s with monitor := monitorAfterTest s })
  obtain ⟨hagrees, hhold⟩ := cleared_flow (t := enterIdle s) rfl rfl
  exact ⟨hagrees, hhold, .inr ⟨hstate, hidle⟩⟩

theorem onPresent_stands (s : State) : FlowStands s (onPresent s) := by
  unfold onPresent
  split
  case h_1 | h_2 => exact changeConn_stands (by simp [Conn.to]) s
  case h_3 =>
    have honline : FlowStands s (enterOnline s) := changeConn_stands (by simp [Conn.to]) s
    exact honline.trans (.still rfl)
  all_goals exact .still rfl

theorem onAbsent_stands (s : State) : FlowStands s (onAbsent s) := by
  unfold onAbsent
  split
  case h_1 => exact changeConn_stands (by simp [Conn.to]) s
  all_goals exact .still rfl

theorem endWindow_stands (s : State) : FlowStands s (endWindow s) := by
  unfold endWindow
  dsimp only
  split
  · exact .still rfl
  · exact (onPresent_stands _).of_still rfl
  · exact (onAbsent_stands _).of_still rfl

theorem endSettleTimer_stands (s : State) : FlowStands s (endSettleTimer s) := by
  unfold endSettleTimer
  split <;> exact changeConn_stands (by simp [Conn.to]) s

theorem openCall_stands (role : Role) (s : State) : FlowStands s (openCall role s) :=
  (changeConn_stands (by cases role <;> simp [Conn.to]) _).of_still rfl

theorem closeCall_moves (s : State) : FlowMoves s (closeCall s) := by
  unfold closeCall
  split
  case h_1 | h_2 => exact .inr (changeConn_stands (by simp [Conn.to]) s)
  case h_3 h | h_4 h | h_5 h => exact .inl (enterIdle_anew (by simp [h]))
  all_goals exact .inr (.still rfl)

theorem setLoop_moves (loop : LoopMode) (s : State) : ∀ t ∈ setLoop loop s, FlowMoves s t := by
  unfold setLoop
  split
  case h_1 | h_2 => rintro _ ⟨rfl⟩; exact .inr ((changeConn_stands (by simp [Conn.to]) _).of_still rfl)
  case h_3 h => rintro _ ⟨rfl⟩; exact .inl (enterIdle_anew (by simp [h]))
  case h_4 | h_5 | h_6 | h_7 => rintro _ ⟨rfl⟩; exact .inr (.still rfl)
  case h_8 => simp

/-! ### The keyboard (R140 to R149) -/

theorem keyDown_stands (p : Nat) (s : State) : FlowStands s (keyDown p s) := by
  unfold keyDown
  split
  · exact .still rfl
  · split
    · exact .still rfl
    · dsimp only
      rcases actEntry_cases (s.keys.keymap.entry (s.keys.layerFor p) p) { s with keys := _ } with ⟨-, e⟩ | hleaves
      · rw [e]; exact .still rfl
      · exact hleaves.flowStands.of_still rfl

theorem keyDowns_stand (downs : List Nat) (s : State) : FlowStands s (downs.foldl (fun s' p => keyDown p s') s) :=
  foldl_keeps (P := FlowStands s) (fun u p h => h.trans (keyDown_stands p u)) downs s (.still rfl)

theorem scanReading_stands (closed : List Nat) (s : State) : FlowStands s (scanReading closed s) := by
  have keys (k : Keys) : FlowStands s { s with keys := k } := .still rfl
  unfold scanReading
  dsimp only
  split
  · exact keys _
  · exact (keys _).trans ((keys _).trans (keyDowns_stand _ _))

theorem endRepeat_stands (s : State) : FlowStands s (endRepeat s) := by
  unfold endRepeat
  dsimp only
  split
  · split
    · exact (offerKey_leavesCall _ _).flowStands.of_still rfl
    · exact .still rfl
  · exact .still rfl

/-! ### Commands and rows -/

/-- A command that sends no flow code, carried out outside a reset. -/
def ActMovesFlow (act : State → State × Reply) : Prop := ∀ s, s.resetting = none → FlowMoves s (act s).1

theorem answer_moves {α : Type} (kind : Byte) (read : Except Reason α) {act : α → State → State × Reply}
    (h : ∀ x, ActMovesFlow (act x)) : ActMovesFlow (answer kind read act) := by
  intro s hreset
  cases read with
  | error reason => exact .inr (.still rfl)
  | ok x => exact h x s hreset

theorem row_moves {f : State → State} (e : row f s = .next t) (hf : s.resetting = none → FlowMoves s (f s)) : FlowMoves s t :=
  row_running_keeps (P := FlowMoves s) (fun u h => h.leaves (settleRow_leavesCall u)) (.inr (.still rfl)) e hf

theorem timerRow_moves {timer : State → Timer} {f : State → State} (e : timerRow timer f s = .next t)
    (hf : ∀ due, s.resetting = none → timer s = some due → FlowMoves (atMoment due s) (f (atMoment due s))) : FlowMoves s t :=
  timerRow_running_keeps (P := FlowMoves s) (fun u h => h.leaves (settleRow_leavesCall u)) (.inr (.still rfl)) e
    fun due hreset hdue => (hf due hreset hdue).of_still rfl

theorem commandRow_moves {act : State → State × Reply} {kind : Byte} {dt : Micros} {p : List Byte} (hact : ActMovesFlow act)
    (e : commandRow kind dt p act s = .next t) : FlowMoves s t := by
  refine row_moves e fun hreset => ?_
  rcases complete_cases (kind := kind) (p := p) act (after dt s) with e | e | ⟨-, e⟩ <;> rw [e]
  · exact .inr (.still rfl)
  · exact .inr (.still rfl)
  · refine FlowMoves.of_still (t := closeFrame (after dt s)) ?_ rfl
    exact FlowMoves.leaves (hact _ hreset) (.still rfl)

theorem connect_moves (p : List Byte) : ActMovesFlow (actConnect p) := by
  refine answer_moves _ _ fun role s _ => ?_
  split
  · exact .inr (openCall_stands role s)
  · exact .inr (.still rfl)

theorem break_moves (p : List Byte) : ActMovesFlow (actBreak p) := by
  refine answer_moves _ _ fun _ s _ => ?_
  split <;> exact .inr (.still rfl)

theorem setLoopCommand_moves (p : List Byte) : ActMovesFlow (actSetLoop p) := by
  refine answer_moves _ _ fun loop s _ => ?_
  split
  · next t ht => exact setLoop_moves loop s t ht
  · exact .inr (.still rfl)

/-- R195: at the end of RESTART's reply a reset begins. -/
theorem endFrame_moves (hreset : s.resetting = none) : FlowMoves s (endFrame s) := by
  unfold endFrame endTxFrame
  split
  · exact .inr (.still rfl)
  · dsimp only
    split
    · next frame _ _ =>
      obtain ⟨hagrees, hhold⟩ := cleared_flow (t := restartReset { s with link := { s.link with tx := none } }) rfl rfl
      exact .inl ⟨hagrees, hhold, .inl ⟨hreset, by simp [restartReset, generalReset, enterReset, State.held]⟩⟩
    · exact .inr (.still rfl)

/-- Every row but FRAMER_TAKE and the two resets from outside. -/
theorem exec_moves (i : Instr) (hok : ConnectionOk s) (htake : i ≠ .framerTake)
    (hpins : ∀ dt, i ≠ .powerUpReset dt ∧ i ≠ .generalResetFromPin dt) (e : exec i s = .next t) : FlowMoves s t := by
  obtain ⟨hconnect, hsettle, hdropout, hclearing, -⟩ := hok
  by_cases hi : movesCall i = false
  · exact .inr (exec_leavesCall i hi e).flowStands
  cases i <;> first | exact absurd rfl hi | dsimp only [exec] at e
  case framerTake => exact absurd rfl htake
  case powerUpReset dt => exact absurd rfl (hpins dt).1
  case generalResetFromPin dt => exact absurd rfl (hpins dt).2
  case connect dt p => exact commandRow_moves (connect_moves p) e
  case disconnect dt p => exact commandRow_moves (answer_moves _ _ fun _ s _ => closeCall_moves s) e
  case sendBreak dt p => exact commandRow_moves (break_moves p) e
  case setLoop dt p => exact commandRow_moves (setLoopCommand_moves p) e
  case setKeys dt p =>
    refine commandRow_moves (fun s _ => ?_) e
    unfold actSetKeys
    cases readKeys p <;> exact .inr (.still rfl)
  case loadKeymap dt p =>
    refine commandRow_moves (fun s _ => ?_) e
    unfold actLoadKeymap
    cases readKeymap p <;> exact .inr (.still rfl)
  case linkFrameEnd => exact timerRow_moves e fun _ hreset _ => endFrame_moves hreset
  case resetEnd dt =>
    unfold execResetEnd at e
    split at e <;> obtain rfl := Host.Outcome.next.inj e
    · exact .inr (.still rfl)
    · next cause _ =>
      have hend : FlowStands (resetMoment dt s) (endReset cause (resetMoment dt s)) := ⟨.of_slot rfl rfl, fun _ => rfl, id⟩
      exact .inr (((resetMoment_leavesCall dt s).flowStands.trans hend).trans (settleRow_leavesCall _).flowStands)
  case breakTimerExpiry => exact timerRow_moves e fun _ _ _ => .inr (.still rfl)
  case carrierWindowEnd => exact timerRow_moves e fun _ _ _ => .inr (endWindow_stands _)
  case connectTimerExpiry =>
    refine timerRow_moves e fun due _ hruns => .inl ((enterIdle_anew ?_).leaves (.still rfl))
    rcases hconnect.1 (by simp [hruns]) with h | h <;> simp [h]
  case settleTimerExpiry => exact timerRow_moves e fun _ _ _ => .inr (endSettleTimer_stands _)
  case dropoutTimerExpiry =>
    refine timerRow_moves e fun due _ hruns => .inl ((enterIdle_anew ?_).leaves (.still rfl))
    simp [hdropout.1 (by simp [hruns])]
  case clearingTimerExpiry =>
    refine timerRow_moves e fun due _ hruns => .inl (enterIdle_anew ?_)
    simp [hclearing.1 (by simp [hruns])]
  case scanReading closed => exact timerRow_moves e fun _ _ _ => .inr (scanReading_stands closed _)
  case repeatTimerExpiry => exact timerRow_moves e fun _ _ _ => .inr (endRepeat_stands _)

/-! ### FRAMER_TAKE (R107) -/

theorem framerState_iff (c : Conn) : framerState c = true ↔ c.state = .online ∨ c.state = .fade ∨ c.state = .test := by
  unfold framerState
  cases c.state <;> simp

/-- R107: a free Framer in a state that sends, with no break or its mark in progress. -/
theorem framerMayTake_iff (s : State) :
    framerMayTake s = true ↔ s.signal.framer = none
      ∧ (s.conn.state = .online ∨ s.conn.state = .fade ∨ s.conn.state = .test)
      ∧ s.signal.breakTimer = none ∧ s.signal.markTimer = none := by
  simp [framerMayTake, framerState_iff, and_assoc]

theorem flowSent_framerTake (hreset : s.resetting = none) :
    flowSent .framerTake s = if framerMayTake s then s.router.slot.map FlowCode.kind else none := by
  by_cases h : framerMayTake s = true
  · simp [flowSent, hreset, (framerMayTake_iff s).1 h, h]
  · have hnot := mt (framerMayTake_iff s).2 h
    simp only [h, Bool.false_eq_true, ↓reduceIte]
    exact if_neg fun hsent => hnot hsent.2.2

/-- R107: a Framer that may take sends the slot's code, or a character. -/
theorem framerTake_stands (h : framerMayTake s = false ∨ s.router.slot = none) : FlowStands s (framerTake s) := by
  unfold framerTake
  split
  · next hmay =>
    have hslot : s.router.slot = none := h.resolve_left (by simp [hmay])
    split
    · simp_all
    · split
      · split <;> exact .still rfl
      · exact .still rfl
  · exact .still rfl

/-- R171: once the slot's code is sent, the code of the other kind is due. -/
theorem framerTake_sends {f : FlowCode} (hagrees : SlotAgrees s) (hmay : framerMayTake s = true) (hslot : s.router.slot = some f) :
    SlotAgrees (framerTake s) ∧ nextFlow s = f.kind ∧ nextFlow (framerTake s) ≠ f.kind := by
  have he : framerTake s = beginFraming f.code { s with router := { s.router with slot := none } } := by
    simp [framerTake, hmay, hslot]
  have hkind := hagrees f hslot
  refine ⟨by simp [he, SlotAgrees, beginFraming], by simp [nextFlow, hslot], ?_⟩
  simp only [he, nextFlow, beginFraming]
  cases hf : f.kind <;> simp_all

/-- O60 at FRAMER_TAKE. -/
theorem framerTake_alternates (hagrees : SlotAgrees s) (e : exec .framerTake s = .next t) :
    FlowStands s t ∧ flowSent .framerTake s = none
      ∨ SlotAgrees t ∧ t.resetting = none ∧ t.conn = s.conn ∧ s.resetting = none
        ∧ ∃ k, flowSent .framerTake s = some k ∧ nextFlow s = k ∧ nextFlow t ≠ k := by
  rcases row_cases framerTake s with ⟨hreset, e'⟩ | ⟨hreset, e'⟩ <;> obtain rfl := Host.Outcome.next.inj (e'.symm.trans e)
  · exact .inl ⟨.still rfl, if_neg fun hsent => hreset hsent.2.1⟩
  · have hsettle := settleRow_leavesCall (framerTake s)
    rw [flowSent_framerTake hreset]
    rcases hslot : s.router.slot with _ | f
    · exact .inl ⟨(framerTake_stands (.inr hslot)).trans hsettle.flowStands, by simp⟩
    · by_cases hmay : framerMayTake s = true
      · obtain ⟨hagrees', hnext, hother⟩ := framerTake_sends hagrees hmay hslot
        obtain ⟨hsettled, hnext'⟩ := hsettle.flow hagrees'
        have hcall := framerTake_call s
        refine .inr ⟨hsettled, ?_, ?_, hreset, f.kind, by simp [hmay], hnext, hnext'.trans_ne hother⟩
        · exact (hsettle.resetting.trans (congrArg CallView.resetting hcall)).trans hreset
        · exact hsettle.conn.trans (congrArg CallView.conn hcall)
      · have hmay := Bool.eq_false_iff.2 hmay
        exact .inl ⟨(framerTake_stands (.inl hmay)).trans hsettle.flowStands, by simp [hmay]⟩

/-! ### Every step -/

/-- What O60 says of one row. -/
def Alternates (i : Instr) (s t : State) : Prop :=
  SlotAgrees t
    ∧ (beginsAnew i s t → nextFlow t = .hold)
    ∧ (∀ k, flowSent i s = some k → nextFlow s = k ∧ nextFlow t ≠ k)
    ∧ (¬ beginsAnew i s t → flowSent i s = none → nextFlow t = nextFlow s)

/-- R171: a row that begins the order anew, and sends nothing. -/
theorem alternates_anew {i : Instr} (htake : i ≠ .framerTake) (hagrees : SlotAgrees t) (hhold : nextFlow t = .hold)
    (hbegins : beginsAnew i s t) : Alternates i s t :=
  ⟨hagrees, fun _ => hhold, fun k hk => by simp [flowSent, htake] at hk, fun h => absurd hbegins h⟩

/-- R171: a row that lets the order stand, and sends nothing. -/
theorem alternates_stands {i : Instr} (hpins : ∀ dt, i ≠ .powerUpReset dt ∧ i ≠ .generalResetFromPin dt)
    (hsent : flowSent i s = none) (hagrees : SlotAgrees s) (h : FlowStands s t) : Alternates i s t := by
  obtain ⟨hflow, hrunning, haway⟩ := h
  obtain ⟨hagrees', hnext⟩ := hflow hagrees
  refine ⟨hagrees', ?_, fun k hk => by simp [hsent] at hk, fun _ _ => hnext⟩
  rintro (⟨dt, h | h⟩ | ⟨hs, ht⟩ | ⟨hs, ht⟩)
  · exact absurd h (hpins dt).1
  · exact absurd h (hpins dt).2
  · exact absurd (hrunning hs) ht
  · exact absurd (haway ht) hs

theorem exec_alternates (i : Instr) (hagrees : SlotAgrees s) (hok : ConnectionOk s) (e : exec i s = .next t) :
    Alternates i s t := by
  by_cases hpins : ∀ dt, i ≠ .powerUpReset dt ∧ i ≠ .generalResetFromPin dt
  · by_cases htake : i = .framerTake
    · subst htake
      rcases framerTake_alternates hagrees e with ⟨hstands, hsent⟩ | ⟨hagrees', hrunning, hconn, hreset, k, hsent, hnext, hother⟩
      · exact alternates_stands hpins hsent hagrees hstands
      · refine ⟨hagrees', ?_, fun k' hk' => ?_, fun _ h => by simp [hsent] at h⟩
        · rintro (⟨dt, h | h⟩ | ⟨-, ht⟩ | ⟨hs, ht⟩)
          · exact absurd h (hpins dt).1
          · exact absurd h (hpins dt).2
          · exact absurd hrunning ht
          · exact absurd (hconn ▸ ht) hs
        · obtain rfl : k = k' := Option.some.inj (hsent.symm.trans hk')
          exact ⟨hnext, hother⟩
    · rcases exec_moves i hok htake hpins e with ⟨hagrees', hhold, hbegins⟩ | hstands
      · exact alternates_anew htake hagrees' hhold (.inr hbegins)
      · exact alternates_stands hpins (by simp [flowSent, htake]) hagrees hstands
  · obtain ⟨dt, h⟩ : ∃ dt, i = .powerUpReset dt ∨ i = .generalResetFromPin dt := by
      by_contra hnone
      exact hpins fun dt => not_or.1 fun h => hnone ⟨dt, h⟩
    rcases h with rfl | rfl <;> obtain rfl := Host.Outcome.next.inj e <;>
      exact alternates_anew nofun (cleared_flow rfl rfl).1 (cleared_flow rfl rfl).2 (.inl ⟨dt, by simp⟩)

/-- Settles O60: the queued row is executed, and `exec_alternates`. -/
theorem flowCodesAlternate : Obligations.FlowCodesAlternate := by
  intro i rest s t hagrees hok hpending e
  unfold step at e
  simp only [hpending] at e
  exact exec_alternates i (s := { s with pending := rest }) hagrees hok e

end Sys2Proof.Steps
end

section
/-!
O35: SET LINE and SET CARRIER (R96, R97, R106, R119).
-/

namespace Sys2Proof.Steps

open Sys2Proof.Machine Sys2Proof.Safety Sys2Proof.Laws

variable {s : State} {dt : Micros} {b speed bits par stops depth subst code set weak h0 h1 limit : Byte}

/-! ### The settings that bytes name (R188) -/

theorem speedOf_eq (b : Byte) : speedOf b = [Speed.b110, .b150, .b300][b.toNat]? := by
  unfold speedOf
  split_ifs with h0 h1 h2
  · subst h0; rfl
  · subst h1; rfl
  · subst h2; rfl
  · have : [Speed.b110, .b150, .b300].length ≤ b.toNat := by simp only [List.length_cons, List.length_nil]; bv_omega
    exact (List.getElem?_eq_none this).symm

theorem parityOf_eq (b : Byte) : parityOf b = [Parity.none, .even, .odd, .mark, .space][b.toNat]? := by
  unfold parityOf
  split_ifs with h0 h1 h2 h3 h4
  · subst h0; rfl
  · subst h1; rfl
  · subst h2; rfl
  · subst h3; rfl
  · subst h4; rfl
  · have : [Parity.none, .even, .odd, .mark, .space].length ≤ b.toNat := by
      simp only [List.length_cons, List.length_nil]; bv_omega
    exact (List.getElem?_eq_none this).symm

theorem speedOf_some {sp : Speed} (h : speedOf b = some sp) : b.toNat ≤ 2 ∧ (sp = .b110 ↔ b = 0) := by
  unfold speedOf at h
  split_ifs at h with h0 h1 h2 <;> obtain rfl := Option.some.inj h <;> subst b <;> decide

theorem parityOf_some {p : Parity} (h : parityOf b = some p) : b.toNat ≤ 4 ∧ (p = .none ↔ b = 0) := by
  unfold parityOf at h
  split_ifs at h with h0 h1 h2 h3 h4 <;> obtain rfl := Option.some.inj h <;> subst b <;> decide

theorem dataBitsOf_some {eight : Bool} (h : dataBitsOf b = some eight) : (b = 7 ∨ b = 8) ∧ (eight = false ↔ b = 7) := by
  unfold dataBitsOf at h
  split_ifs at h with h7 h8 <;> obtain rfl := Option.some.inj h <;> subst b <;> decide

theorem stopBitsOf_some {two : Bool} (h : stopBitsOf b = some two) : b = 1 ∨ b = 2 := by
  unfold stopBitsOf at h
  split_ifs at h with h1 h2
  · exact .inl h1
  · exact .inr h2

theorem depthOf_some {deep : Bool} (h : depthOf b = some deep) : b = 0x10 ∨ b = 0x20 := by
  unfold depthOf at h
  split_ifs at h with h1 h2
  · exact .inl h1
  · exact .inr h2

theorem dataBitsOf_named (h : b = 7 ∨ b = 8) : dataBitsOf b = some (decide (b = 8)) := by rcases h with rfl | rfl <;> rfl

theorem stopBitsOf_named (h : b = 1 ∨ b = 2) : stopBitsOf b = some (decide (b = 2)) := by rcases h with rfl | rfl <;> rfl

theorem depthOf_named (h : b = 0x10 ∨ b = 0x20) : depthOf b = some (decide (b = 0x20)) := by rcases h with rfl | rfl <;> rfl

theorem switchOf_some {on : Bool} (h : switchOf b = some on) : b.toNat ≤ 1 := by
  by_contra habove
  simp [switchOf_above (Nat.lt_of_not_le habove)] at h

/-! ### SET LINE (R96, R97, R106) -/

/-- R96: the fields of SET LINE name settings that go together. -/
def LineLegal (speed bits par stops depth subst : Byte) : Prop :=
  speed.toNat ≤ 2 ∧ (bits = 0x07 ∨ bits = 0x08) ∧ par.toNat ≤ 4 ∧ (stops = 0x01 ∨ stops = 0x02)
    ∧ (depth = 0x10 ∨ depth = 0x20) ∧ subst.toNat ≤ 1 ∧ ¬ (par = 0x00 ∧ bits = 0x07)

theorem readLine_illegal (h : ¬ LineLegal speed bits par stops depth subst) :
    readLine [speed, bits, par, stops, depth, subst, code] = .error .range := by
  unfold readLine
  dsimp only
  split
  · next sp eight p two deep sub hspeed hbits hpar hstops hdepth hsubst =>
    obtain ⟨hbits, hseven⟩ := dataBitsOf_some hbits
    obtain ⟨hpar, hnone⟩ := parityOf_some hpar
    refine if_pos ?_
    by_contra hpair
    exact h ⟨(speedOf_some hspeed).1, hbits, hpar, stopBitsOf_some hstops, depthOf_some hdepth, switchOf_some hsubst,
      by rwa [hnone, hseven] at hpair⟩
  · rfl

/-- R96, R97: the settings, with two stop bits at 110 bit/s, and whether that raised them. -/
theorem readLine_legal {sp : Speed} {p : Parity} (h : LineLegal speed bits par stops depth subst)
    (hspeed : speedOf speed = some sp) (hpar : parityOf par = some p) :
    readLine [speed, bits, par, stops, depth, subst, code] = .ok (
      { speed := sp, eightBits := decide (bits = 0x08), parity := p
        twoStops := decide (stops = 0x02 ∨ speed = 0x00), deep := decide (depth = 0x20)
        substitution := decide (subst = 0x01), substitute := code },
      decide (speed = 0x00 ∧ stops = 0x01)) := by
  obtain ⟨-, hbits, -, hstops, hdepth, hsubst, hpair⟩ := h
  have hseven := (dataBitsOf_some (dataBitsOf_named hbits)).2
  have hpair' : ¬ (p = .none ∧ decide (bits = 8) = false) := by rwa [(parityOf_some hpar).2, hseven]
  have hslow : decide (sp = .b110) = decide (speed = 0) := decide_eq_decide.2 (speedOf_some hspeed).2
  simp only [readLine, hspeed, hpar, dataBitsOf_named hbits, stopBitsOf_named hstops, depthOf_named hdepth,
    switchOf_le_one hsubst, hpair', if_false, hslow]
  rcases hstops with rfl | rfl <;> by_cases h0 : speed = 0 <;> simp [h0]

/-! ### SET CARRIER (R119) -/

theorem readCarrier_illegal (h : 1 < set.toNat ∨ 1 < weak.toNat) : readCarrier [set, weak, h0, h1, limit] = .error .range := by
  unfold readCarrier thresholdOf
  rcases h with h | h <;> simp only [switchOf_above h]
  cases switchOf set <;> rfl

theorem readCarrier_legal (hset : set.toNat ≤ 1) (hweak : weak.toNat ≤ 1) :
    readCarrier [set, weak, h0, h1, limit] = .ok (
      { noisy := decide (set = 0x01), weak := decide (weak = 0x01), dropoutHold := clampNat 200 2000 (wordOf h0 h1)
        connectTimeout := clampNat 10 60 limit.toNat },
      clampNat 200 2000 (wordOf h0 h1) != wordOf h0 h1 || clampNat 10 60 limit.toNat != limit.toNat) := by
  simp only [readCarrier, thresholdOf, switchOf_le_one hset, switchOf_le_one hweak]

theorem carrierClamped_iff (hold limit : Nat) :
    (clampNat 200 2000 hold != hold || clampNat 10 60 limit != limit) = true
      ↔ hold < 200 ∨ 2000 < hold ∨ limit < 10 ∨ 60 < limit := by
  simp only [Bool.or_eq_true, bne_iff_ne, clampNat_moves (show 200 ≤ 2000 by decide), clampNat_moves (show 10 ≤ 60 by decide),
    or_assoc]

/-- Settles O35: each command's payload is read as it names, and the effects are the commands' own. -/
theorem lineAndCarrierSettings : Obligations.LineAndCarrierSettings := by
  constructor
  · intro s dt speed bits par stops depth subst code p legal h
    refine ⟨fun hill => ?_, fun hlegal hstate => ?_, fun hlegal hidle sp parity hspeed hpar => ?_⟩
    · rw [setLine_taken h, actSetLine, readLine_illegal hill]
      rfl
    · have hspeed : speedOf speed = some _ := (speedOf_eq speed).trans (List.getElem?_eq_getElem (Nat.lt_succ_of_le hlegal.1))
      have hpar : parityOf par = some _ :=
        (parityOf_eq par).trans (List.getElem?_eq_getElem (Nat.lt_succ_of_le hlegal.2.2.1))
      rw [setLine_taken h, actSetLine, readLine_legal hlegal hspeed hpar]
      exact settled_congr (by simp [hstate, reply_closeFrame_after])
    · rw [setLine_taken h, actSetLine, readLine_legal hlegal ((speedOf_eq _).trans hspeed) ((parityOf_eq _).trans hpar)]
      refine settled_congr ?_
      have hidle' : (closeFrame (after dt s)).conn.state = .idle := hidle
      simp only [answer_ok, hidle', if_true]
      rw [doneOr_eq 0x11 decide_eq_true_iff]
      unfold setLine Deframer.abandon
      rfl
  · intro s dt set weak h0 h1 limit p hold h
    refine ⟨fun hill => ?_, fun hset hweak => ?_⟩
    · rw [setCarrier_taken h, actSetCarrier, readCarrier_illegal hill]
      rfl
    · rw [setCarrier_taken h, actSetCarrier, readCarrier_legal hset hweak]
      refine settled_congr ?_
      simp only [answer_ok]
      rw [doneOr_eq 0x12 (carrierClamped_iff _ _)]
      rfl

end Sys2Proof.Steps
end

section
/-!
O36: CONNECT, DISCONNECT, BREAK and SET LOOP by the connect state (R120, R126, R128, R131 to R133).
-/

namespace Sys2Proof.Steps

open Sys2Proof.Machine Sys2Proof.Safety Sys2Proof.Laws

variable {s : State} {dt : Micros} {b : Byte}

/-! ### The payloads (R188) -/

theorem roleOf_above (h : 1 < b.toNat) : roleOf b = none := by
  unfold roleOf
  split_ifs with h0 h1
  · subst h0; simp at h
  · subst h1; simp at h
  · rfl

theorem loopOf_above (h : 3 < b.toNat) : loopOf b = none := by
  unfold loopOf
  split_ifs with h0 h1 h2 h3
  · subst h0; simp at h
  · subst h1; simp at h
  · subst h2; simp at h
  · subst h3; simp at h
  · rfl

theorem readNamed_role (h : b.toNat ≤ 1) : readNamed roleOf [b] = .ok (if b = 0 then .originate else .answer) := by
  have : b = 0 ∨ b = 1 := by bv_omega
  rcases this with rfl | rfl <;> rfl

/-! ### Changes of the connect state -/

/-- R99, R104, R110: a change to a state that is not an open call, neither from ONLINE nor into or out of LOCAL TONE. -/
theorem onChange_calm {old new : Conn} (hnew : breakAllowed new = false) (hold : old.state ≠ .online)
    (htone : inLocalTone old = inLocalTone new) (g : Signal) : g.onChange old new = { g with breakTimer := none } := by
  simp [Signal.onChange, spoils, hnew, hold, htone]

/-- R120: CONNECT in IDLE. -/
theorem openCall_idle (hidle : s.conn.state = .idle) (role : Role) : openCall role s = { s with
    conn := { state := if role = .originate then .waitAnswer else .answering, loop := s.conn.loop, role := role
              connectTimer := some (s.now + 1000000 * s.monitor.connectTimeout)
              settleTimer := none, dropoutTimer := none, clearingTimer := none }
    monitor := s.monitor.restart s.now
    signal := { s.signal with breakTimer := none }
    link := told s.link } := by
  unfold openCall
  rw [changeConn_closed _ _ (by cases role <;> rfl),
    onChange_calm (by cases role <;> rfl) (by simp [hidle]) (by cases role <;> simp [inLocalTone, hidle, Conn.to])]
  cases role <;> rfl

/-- R126: DISCONNECT in an open call. -/
theorem closeCall_open (hopen : OpenCall s) : closeCall s = { s with
    conn := { state := .clearing, loop := .normal, role := s.conn.role, connectTimer := none, settleTimer := none
              dropoutTimer := none, clearingTimer := some (s.now + 250000) }
    signal := { s.signal with
      breakTimer := none, deframer := if s.conn.state = .online then s.signal.deframer.spoil else s.signal.deframer }
    link := told s.link } := by
  have hclear : closeCall s = enterClearing s := by
    unfold closeCall
    rcases hopen with h | h <;> simp only [h]
  rw [hclear, enterClearing, changeConn_closed _ _ rfl]
  rcases hopen with h | h <;> simp [Signal.onChange, spoils, inLocalTone, breakAllowed, h, Conn.to, Config.clearingTime]

/-- R126: DISCONNECT of a call not yet open. -/
theorem closeCall_opening (h : s.conn.state = .waitAnswer ∨ s.conn.state = .answering ∨ s.conn.state = .settle) :
    closeCall s = idled s := by
  rw [← enterIdle_eq_idled]
  unfold closeCall
  rcases h with h | h | h <;> simp only [h]

/-- R126: DISCONNECT elsewhere. -/
theorem closeCall_else (h : s.conn.state = .clearing ∨ s.conn.state = .idle ∨ s.conn.state = .test) : closeCall s = s := by
  unfold closeCall
  rcases h with h | h | h <;> simp only [h]

/-! ### SET LOOP (R131 to R133) -/

theorem setLoop_localTone (hidle : s.conn.state = .idle) : setLoop .localTone s = some { s with
    conn := { state := .test, loop := .localTone, role := .originate, connectTimer := none, settleTimer := none
              dropoutTimer := none, clearingTimer := none }
    monitor := s.monitor.restart s.now
    signal := { s.signal with deframer := s.signal.deframer.spoil, crossing := none, breakTimer := none }
    link := told s.link } := by
  have hset : setLoop .localTone s = some (enterLocalTone s) := by simp only [setLoop, hidle]
  rw [hset, enterLocalTone, changeConn_closed _ _ rfl]
  simp [Signal.onChange, spoils, inLocalTone, breakAllowed, hidle, Conn.to]

theorem setLoop_localChar (hidle : s.conn.state = .idle) : setLoop .localChar s = some { s with
    conn := { state := .test, loop := .localChar, role := s.conn.role, connectTimer := none, settleTimer := none
              dropoutTimer := none, clearingTimer := none }
    monitor := s.monitor.goIdle
    signal := { s.signal with breakTimer := none }
    link := told s.link } := by
  have hset : setLoop .localChar s = some (enterLocalChar s) := by simp only [setLoop, hidle]
  rw [hset, enterLocalChar, changeConn_closed _ _ rfl,
    onChange_calm rfl (by simp [hidle]) (by simp [inLocalTone, hidle, Conn.to])]
  rfl

theorem setLoop_leaveTest (htest : s.conn.state = .test) : setLoop .normal s = some (idled s) := by
  simp only [setLoop, htest, enterIdle_eq_idled]

theorem setLoop_open (hopen : OpenCall s) {loop : LoopMode} (hloop : loop = .normal ∨ loop = .remoteEcho) :
    setLoop loop s = some { s with conn := { s.conn with loop := loop } } := by
  rcases hloop with rfl | rfl <;> rcases hopen with h | h <;> simp only [setLoop, h, setLoopMode]

theorem setLoop_normal_refused (htest : s.conn.state ≠ .test) (hopen : ¬ OpenCall s) : setLoop .normal s = none := by
  unfold setLoop
  split <;> simp_all [OpenCall]

theorem setLoop_echo_refused (hopen : ¬ OpenCall s) : setLoop .remoteEcho s = none := by
  unfold setLoop
  split <;> simp_all [OpenCall]

theorem setLoop_test_refused (hidle : s.conn.state ≠ .idle) : setLoop .localTone s = none ∧ setLoop .localChar s = none := by
  constructor <;> unfold setLoop <;> split <;> simp_all

/-- R131: SET LOOP with a mode that is refused here. -/
theorem setLoop_refused_row {loop : LoopMode} (h : CanTake 0x16 [b] s) (hread : readNamed loopOf [b] = .ok loop)
    (hrefused : setLoop loop (closeFrame (after dt s)) = none) :
    exec (.setLoop dt [b]) s = .next (settleRow (answered dt (.reject 0x16 .state) s)) := by
  rw [setLoop_taken h, actSetLoop, hread]
  exact settled_congr (by simp only [answer_ok, hrefused, reply_closeFrame_after])

/-- R131: SET LOOP with a mode that is set. -/
theorem setLoop_done_row {loop : LoopMode} {t : State} (h : CanTake 0x16 [b] s) (hread : readNamed loopOf [b] = .ok loop)
    (hset : setLoop loop (closeFrame (after dt s)) = some t) :
    exec (.setLoop dt [b]) s = .next (settleRow (reply (.done 0x16) t)) := by
  rw [setLoop_taken h, actSetLoop, hread]
  exact settled_congr (by simp only [answer_ok, hset])

/-! ### The four commands -/

theorem connect_row (s : State) (dt : Micros) (b : Byte) (h : CanTake 0x13 [b] s) :
    (1 < b.toNat → exec (.connect dt [b]) s = .next (settleRow (answered dt (.reject 0x13 .range) s)))
    ∧ (b.toNat ≤ 1 → s.conn.state ≠ .idle →
      exec (.connect dt [b]) s = .next (settleRow (answered dt (.reject 0x13 .state) s)))
    ∧ (b.toNat ≤ 1 → s.conn.state = .idle →
      exec (.connect dt [b]) s = .next (settleRow { answered dt (.done 0x13) s with
        conn := { state := if b = 0x00 then .waitAnswer else .answering, loop := s.conn.loop
                  role := if b = 0x00 then .originate else .answer
                  connectTimer := some (s.now + dt + 1000000 * s.monitor.connectTimeout)
                  settleTimer := none, dropoutTimer := none, clearingTimer := none }
        monitor := s.monitor.restart (s.now + dt)
        signal := { s.signal with breakTimer := none }
        link := told (answered dt (.done 0x13) s).link })) := by
  refine ⟨fun hb => ?_, fun hb hstate => ?_, fun hb hidle => ?_⟩ <;> rw [connect_taken h, actConnect]
  · simp only [readNamed, roleOf_above hb]
    rfl
  · rw [readNamed_role hb]
    exact settled_congr (by simp [hstate, reply_closeFrame_after])
  · have hidle' : (closeFrame (after dt s)).conn.state = .idle := hidle
    rw [readNamed_role hb]
    refine settled_congr ?_
    simp only [answer_ok, hidle', if_true, openCall_idle hidle']
    by_cases hb0 : b = 0 <;> simp only [hb0, if_true, if_false] <;> rfl

theorem disconnect_row {t : State} (h : CanTake 0x14 [] s) (hclose : closeCall (closeFrame (after dt s)) = t) :
    exec (.disconnect dt []) s = .next (settleRow (reply (.done 0x14) t)) := by
  rw [disconnect_taken h, ← hclose]
  rfl

theorem sendBreak_row (s : State) (dt : Micros) (h : CanTake 0x15 [] s) :
    (OpenCall s → exec (.sendBreak dt []) s = .next (settleRow { answered dt (.done 0x15) s with
      signal := { s.signal with breakTimer := some (s.now + dt + 250000), markTimer := none } }))
    ∧ (¬ OpenCall s → exec (.sendBreak dt []) s = .next (settleRow (answered dt (.reject 0x15 .state) s))) := by
  rw [sendBreak_taken h]
  constructor <;> intro hopen <;> refine settled_congr ?_
  · have hallowed : breakAllowed (closeFrame (after dt s)).conn = true := (breakAllowed_iff s.conn).2 hopen
    simp only [actBreak, noPayload, answer_ok, hallowed, if_true]
    rfl
  · have hrefused : breakAllowed (closeFrame (after dt s)).conn = false := Bool.eq_false_iff.2 (mt (breakAllowed_iff s.conn).1 hopen)
    simp only [actBreak, noPayload, answer_ok, hrefused, Bool.false_eq_true, if_false, reply_closeFrame_after]

/-- Settles O36: each command's payload is read as it names, and its effect is that of the connect state. -/
theorem callCommandsByState : Obligations.CallCommandsByState := by
  constructor
  · intro s dt t c stopped
    refine ⟨fun b h => connect_row s dt b h, fun h => ⟨fun hopen => ?_, fun hopening => ?_, fun helse => ?_⟩, sendBreak_row s dt⟩
    · rw [disconnect_row h (closeCall_open (s := closeFrame (after dt s)) hopen)]
      rfl
    · rw [disconnect_row h (closeCall_opening (s := closeFrame (after dt s)) hopening)]
      rfl
    · rw [disconnect_row h (closeCall_else (s := closeFrame (after dt s)) helse)]
      rfl
  · intro s dt b h t d runs0 test
    refine ⟨fun hb => ?_, fun hb hrefused => ?_, fun hb hidle => ?_, fun hb hidle => ?_, fun hb htest => ?_, fun hb hopen => ?_⟩
    · rw [setLoop_taken h, actSetLoop]
      simp only [readNamed, loopOf_above hb]
      rfl
    · rcases hrefused with ⟨rfl, htest, hopen⟩ | ⟨rfl | rfl, hidle⟩ | ⟨rfl, hopen⟩
      · exact setLoop_refused_row h rfl (setLoop_normal_refused (s := closeFrame (after dt s)) htest hopen)
      · exact setLoop_refused_row h rfl (setLoop_test_refused (s := closeFrame (after dt s)) hidle).1
      · exact setLoop_refused_row h rfl (setLoop_test_refused (s := closeFrame (after dt s)) hidle).2
      · exact setLoop_refused_row h rfl (setLoop_echo_refused (s := closeFrame (after dt s)) hopen)
    · subst hb
      rw [setLoop_done_row h rfl (setLoop_localTone (s := closeFrame (after dt s)) hidle)]
      rfl
    · subst hb
      rw [setLoop_done_row h rfl (setLoop_localChar (s := closeFrame (after dt s)) hidle)]
      rfl
    · subst hb
      rw [setLoop_done_row h rfl (setLoop_leaveTest (s := closeFrame (after dt s)) htest)]
      rfl
    · rcases hb with rfl | rfl
      · rw [setLoop_done_row h rfl (setLoop_open (s := closeFrame (after dt s)) hopen (.inl rfl))]
        rfl
      · rw [setLoop_done_row h rfl (setLoop_open (s := closeFrame (after dt s)) hopen (.inr rfl))]
        rfl

end Sys2Proof.Steps
end

section
/-!
O41: the Tone Generator follows its causes (R94, R95).
-/

namespace Sys2Proof.Steps

open Sys2Proof.Machine Sys2Proof.Safety Sys2Proof.Laws

variable {g : ToneGen} {out : Tone}

/-! ### A change of output (R94) -/

theorem change_same (h : g.output = out) (channel : ToneChannel) (t : Micros) : g.change out channel t = g := if_pos h

theorem change_begins (h : g.output = .silent) (hout : out ≠ .silent) (channel : ToneChannel) (t : Micros) :
    g.change out channel t = { output := out, channel := channel, phase := 0, since := t } := by
  have hne : g.output ≠ out := fun e => hout (e.symm.trans h)
  rw [ToneGen.change, if_neg hne, if_pos h]

theorem change_ends (h : g.output ≠ .silent) (channel : ToneChannel) (t : Micros) :
    g.change .silent channel t = { output := .silent, channel := g.channel, phase := 0, since := t } := by
  simp only [ToneGen.change, h, if_true, if_false]

theorem change_carries (h : g.output ≠ out) (hwave : g.output ≠ .silent) (hout : out ≠ .silent) (channel : ToneChannel)
    (t : Micros) : g.change out channel t = { output := out, channel := g.channel, phase := g.phaseAt t, since := t } := by
  simp only [ToneGen.change, h, hwave, hout, if_false]

/-! ### The output (R95) -/

/-- R95: the cell being sent, or a break or the clearing's SPACE, or MARK. -/
def sentTone (s : State) : Tone :=
  match s.signal.framer with
  | some c => if (framedCells s.format c.code).getD c.cell true then .mark else .space
  | none => if s.conn.state = .clearing ∨ s.signal.breakTimer.isSome then .space else .mark

theorem wantedTone_sending {s : State} (h : s.conn.state = .online ∨ s.conn.state = .fade ∨ s.conn.state = .clearing
    ∨ s.conn.state = .test ∧ s.conn.loop = .localTone) : wantedTone s = sentTone s := by
  unfold wantedTone sentTone
  rcases h with h | h | h | ⟨h, hloop⟩ <;> cases s.signal.framer <;> simp [*, toneOfBit, presentCell]

theorem txChannel_eq (c : Conn) : txChannel c = if c.role = .answer then .high else .low := by
  unfold txChannel
  cases c.role <;> rfl

theorem spk_localTone {s : State} (htest : s.conn.state = .test) (htone : s.conn.loop = .localTone) : spk s = .silent := by
  simp [spk, inLocalTone, htest, htone]

theorem spk_tone {s : State} (h : s.conn.state ≠ .test ∨ s.conn.loop ≠ .localTone) : spk s = s.tone.output := by
  rcases h with h | h <;> simp [spk, inLocalTone, h]

/-- Settles O41: the output is `wantedTone`, and each way it may change is one of `ToneGen.change`. -/
theorem tonesFollowTheirCauses : Obligations.TonesFollowTheirCauses := by
  intro s cell out hertz
  have hout : wantedTone s = out := by
    cases hstate : s.conn.state with
    | idle | waitAnswer | answering | settle => simp only [wantedTone, out, hstate]
    | online | fade | clearing =>
      rw [wantedTone_sending (by simp [hstate])]
      simp only [out, hstate]
      rfl
    | test =>
      by_cases hloop : s.conn.loop = .localTone
      · rw [wantedTone_sending (.inr (.inr (.inr ⟨hstate, hloop⟩)))]
        simp only [out, hstate, hloop, if_true]
        rfl
      · simp only [wantedTone, out, hstate, hloop, if_false]
  have hhertz : toneHertz s.tone.channel s.tone.output = hertz := by
    unfold hertz
    cases s.tone.channel <;> cases s.tone.output <;> rfl
  have hsettle : settleTone s = { s with tone := s.tone.change out (txChannel s.conn) s.now } := hout ▸ rfl
  refine ⟨fun h => ?_, fun hne hsilent => ?_, fun hsilent hwave => ?_, fun hne hwave hwave' => ?_, spk_localTone, spk_tone⟩
  · rw [hsettle, change_same h]
  · rw [hsettle, hsilent, change_ends (hsilent ▸ hne)]
  · rw [hsettle, change_begins hsilent hwave, txChannel_eq]
  · rw [hsettle, change_carries hne hwave hwave', ToneGen.phaseAt, hhertz]

end Sys2Proof.Steps
end

section
/-!
O37: a half-period is classified and judged, and the part's own wave crosses by itself (R93, R94, R98 to R100, R113, R132).
-/

namespace Sys2Proof.Steps

open Sys2Proof.Machine Sys2Proof.Safety Sys2Proof.Laws

variable {s : State} {g : ToneGen}

/-! ### Classes of half-period (R98) -/

/-- R98: a half-period of the listen channel's MARK. -/
def markHalf (low : Bool) (h : Micros) : Bool := decide ((low ∧ 380 ≤ h ∧ h < 495) ∨ (¬ low ∧ 205 ≤ h ∧ h < 253))

/-- R98: a half-period of its SPACE. -/
def spaceHalf (low : Bool) (h : Micros) : Bool := decide ((low ∧ 495 ≤ h ∧ h ≤ 620) ∨ (¬ low ∧ 253 ≤ h ∧ h ≤ 300))

theorem classify_cases (low : Bool) (h : Micros) :
    classify (if low then .low else .high) h = .mark ∧ markHalf low h = true ∧ spaceHalf low h = false
      ∨ classify (if low then .low else .high) h = .space ∧ markHalf low h = false ∧ spaceHalf low h = true
      ∨ classify (if low then .low else .high) h = .out ∧ markHalf low h = false ∧ spaceHalf low h = false := by
  cases low <;> simp only [classify, markHalf, spaceHalf, if_true, if_false, Bool.false_eq_true]
  · by_cases hm : 205 ≤ h ∧ h < 253
    · simp [hm]
    · by_cases hs : 253 ≤ h ∧ h ≤ 300 <;> simp [hm, hs]
  · by_cases hm : 380 ≤ h ∧ h < 495
    · simp [hm]
    · by_cases hs : 495 ≤ h ∧ h ≤ 620 <;> simp [hm, hs]

theorem lineAfter_eq {low : Bool} {h : Micros} (line : Bool) :
    lineAfter line (classify (if low then .low else .high) h) = (markHalf low h || (!spaceHalf low h && line)) := by
  rcases classify_cases low h with ⟨hc, hm, hs⟩ | ⟨hc, hm, hs⟩ | ⟨hc, hm, hs⟩ <;> simp [hc, hm, hs, lineAfter]

theorem countHalf_eq {low : Bool} {h : Micros} (m : Monitor) :
    m.countHalf (classify (if low then .low else .high) h) = { m with
      total := if m.window.isSome then m.total + 1 else m.total
      inBand := if m.window.isSome && (markHalf low h || spaceHalf low h) then m.inBand + 1 else m.inBand } := by
  unfold Monitor.countHalf
  cases m.window.isSome
  · rfl
  · rcases classify_cases low h with ⟨hc, hm, hs⟩ | ⟨hc, hm, hs⟩ | ⟨hc, hm, hs⟩ <;> simp [hc, hm, hs]

/-- R100: a change of line state ends WAIT MARK, or is a start edge. -/
def watched (old line : Bool) (t : Micros) (d : Deframer) : Deframer :=
  match d with
  | .waitMark => if !old && line then .waitStart else .waitMark
  | .waitStart => if old && !line then .assembling t [] false else .waitStart
  | d => d

theorem watch_eq (old line : Bool) (t : Micros) (d : Deframer) :
    (if line = old then d else d.watch line t) = watched old line t d := by
  cases d <;> cases old <;> cases line <;> rfl

/-! ### Crossings (R98, R99) -/

theorem crossing_first (at0 : Nat) (h : s.signal.crossing = none) :
    crossing at0 s = { s with signal := { s.signal with crossing := some at0 } } := by
  simp only [crossing, h]

theorem crossing_next (at0 : Nat) {t : Nat} (hlast : s.signal.crossing = some t) :
    let h := (at0 - t) / 15739360
    let mark := markHalf (listensLow s) h
    let space := spaceHalf (listensLow s) h
    let line := mark || (!space && s.signal.lineMark)
    crossing at0 s = { s with
      monitor := { s.monitor with
        total := if s.monitor.window.isSome then s.monitor.total + 1 else s.monitor.total
        inBand := if s.monitor.window.isSome && (mark || space) then s.monitor.inBand + 1 else s.monitor.inBand }
      signal := { s.signal with
        crossing := some at0
        lineMark := line
        deframer := watched s.signal.lineMark line s.now s.signal.deframer } } := by
  intro h mark space line
  have hjudge : crossing at0 s = { judgeHalf h s with signal := { (judgeHalf h s).signal with crossing := some at0 } } := by
    simp only [crossing, hlast]
    rfl
  rw [hjudge, judgeHalf, listenChannel_eq, lineAfter_eq, countHalf_eq, watch_eq]

theorem inLocalTone_iff (c : Conn) : inLocalTone c = true ↔ c.state = .test ∧ c.loop = .localTone := by
  simp [inLocalTone]

/-- R98, R99: in every other state the crossing is MIC's, at its sender's moment. -/
theorem inputCrossing_mic (dt : Micros) (h : ¬ (s.conn.state = .test ∧ s.conn.loop = .localTone)) :
    inputCrossing dt s = crossing (15739360 * (s.now + dt)) { s with now := s.now + dt } := by
  have htone : inLocalTone s.conn = false := Bool.eq_false_iff.2 (mt (inLocalTone_iff _).1 h)
  rw [Nat.mul_comm]
  simp only [inputCrossing, htone, Bool.false_eq_true, if_false]
  rfl

/-- R99: a SILENT wave has no crossing. -/
theorem inputCrossing_silent (dt : Micros) (h : s.conn.state = .test ∧ s.conn.loop = .localTone)
    (hsilent : s.tone.output = .silent) : inputCrossing dt s = s := by
  simp only [inputCrossing, (inLocalTone_iff _).2 h, if_true, ownCrossing, hsilent]

/-- R99: the wave has one first crossing after a moment. -/
theorem firstCrossing_unique {last : Option Nat} {a b : Nat} (ha : FirstCrossing g last a) (hb : FirstCrossing g last b) :
    a = b := by
  obtain ⟨hcrossA, hafterA, hleastA⟩ := ha
  obtain ⟨hcrossB, hafterB, hleastB⟩ := hb
  exact Nat.le_antisymm (hleastA b hcrossB hafterB) (hleastB a hcrossA hafterA)

/-- R94, R99, R132: in TEST with LOCAL TONE the crossing is the wave's own. -/
theorem inputCrossing_own (dt : Micros) (h : s.conn.state = .test ∧ s.conn.loop = .localTone)
    (hwave : s.tone.output ≠ .silent) {at0 : Nat} (hfirst : FirstCrossing s.tone s.signal.crossing at0) :
    inputCrossing dt s = crossing at0 { s with now := max s.now ((at0 + (15739360 - 1)) / 15739360) } := by
  have hat : s.tone.nextCrossing s.signal.crossing = at0 := firstCrossing_unique (nextCrossing_first s.tone _ hwave) hfirst
  simp only [inputCrossing, (inLocalTone_iff _).2 h, if_true, ownCrossing, hwave, if_false, hat]
  rfl

/-! ### The part's own half-periods (R94) -/

/-- R94: crossings follow one another by half a cycle. -/
theorem next_crossing_eq {last next : Nat} (hwave : g.output ≠ .silent) (hlast : WaveCrosses g last)
    (hnext : FirstCrossing g (some last) next) : next - last = 500000 * g.slowness := by
  obtain ⟨-, hslow, -⟩ := slowness_mul g hwave
  obtain ⟨hcross, hafter, hleast⟩ := hnext
  obtain ⟨n, hn, rfl⟩ := (waveCrosses_iff g hwave _).1 hlast
  obtain ⟨m, hm, rfl⟩ := (waveCrosses_iff g hwave _).1 hcross
  have hlater : 500000 * n - g.phase < 500000 * m - g.phase :=
    Nat.lt_of_mul_lt_mul_right (Nat.lt_of_add_lt_add_left hafter)
  have hhalf : 500000 * (n + 1) - g.phase ≤ 500000 * m - g.phase := by omega
  have hsucc : (500000 * (n + 1) - g.phase) * g.slowness = (500000 * n - g.phase) * g.slowness + 500000 * g.slowness := by
    rw [← Nat.add_mul]
    congr 1
    omega
  have hbefore := hleast _ ((waveCrosses_iff g hwave _).2 ⟨n + 1, by omega, rfl⟩) (by
    rw [hsucc]
    simp only [Option.getD_some]
    have := Nat.mul_pos (show 0 < 500000 by decide) hslow
    omega)
  have hafter := Nat.mul_le_mul_right g.slowness hhalf
  omega

theorem slowness_low_mark (hlow : g.channel = .low) (hmark : g.output = .mark) : g.slowness = 14053 := by
  simp [ToneGen.slowness, toneHertz, Config.waveParts, hlow, hmark]

theorem slowness_low_space (hlow : g.channel = .low) (hspace : g.output = .space) : g.slowness = 17108 := by
  simp [ToneGen.slowness, toneHertz, Config.waveParts, hlow, hspace]

/-- Settles O37: the crossing's input, then the half-period's class; the part's own half-periods are half a cycle. -/
theorem halfPeriodsAreJudged : Obligations.HalfPeriodsAreJudged := by
  constructor
  · intro s dt hreset own part
    rw [halfPeriodEnd_running hreset]
    refine ⟨fun hown hsilent => settled_congr (inputCrossing_silent dt hown hsilent), fun now at0 hinput => ?_⟩
    have hcross : inputCrossing dt s = crossing at0 { s with now := now } := by
      rcases hinput with ⟨hmic, rfl, rfl⟩ | ⟨hown, hwave, hfirst, rfl⟩
      · exact inputCrossing_mic dt hmic
      · exact inputCrossing_own dt hown hwave hfirst
    rw [hcross]
    refine ⟨fun hnone => settled_congr (crossing_first at0 (s := { s with now := now }) hnone), fun t hlast => ?_⟩
    exact settled_congr (crossing_next at0 (s := { s with now := now }) hlast)
  · intro g last next hlast hnext hlow
    refine ⟨fun hmark => ?_, fun hspace => ?_⟩
    · rw [next_crossing_eq (by simp [hmark]) hlast hnext, slowness_low_mark hlow hmark]
    · rw [next_crossing_eq (by simp [hspace]) hlast hnext, slowness_low_space hlow hspace]

end Sys2Proof.Steps
end

section
/-!
O39: the Framer takes, sends its cells and ends; breaks and their marks (R97, R107, R108, R110, R111).
-/

namespace Sys2Proof.Steps

open Sys2Proof.Machine Sys2Proof.Safety Sys2Proof.Laws

variable {s : State} {c : FramedChar}

theorem bitTime_eq (v : Speed) : v.bitTime = (cellTimes v).1 := by rw [cellTimes_eq]

theorem halfBit_eq (v : Speed) : v.halfBit = (cellTimes v).2 := by rw [cellTimes_eq]

/-! ### What a Framer that may take does (R107) -/

theorem framerTake_slot (hmay : framerMayTake s = true) {f : FlowCode} (hslot : s.router.slot = some f) :
    framerTake s = beginFraming f.code { s with router := { s.router with slot := none } } := by
  simp only [framerTake, hmay, if_true, hslot]

theorem framerTake_queue (hmay : framerMayTake s = true) {code : Byte} {rest : List Byte} (hslot : s.router.slot = none)
    (hqueue : s.router.txQueue = code :: rest) (hheld : s.router.remoteHeld = false) :
    framerTake s = beginFraming code { s with router := { s.router with txQueue := rest } } := by
  simp only [framerTake, hmay, if_true, hslot, hqueue, hheld, Bool.false_eq_true, if_false]

theorem framerTake_held (hmay : framerMayTake s = true) (hslot : s.router.slot = none) (hheld : s.router.remoteHeld = true) :
    framerTake s = s := by
  simp only [framerTake, hmay, if_true, hslot, hheld]
  split <;> rfl

/-! ### The cells of a character (R108, R111) -/

theorem cellBoundary_next (hframer : s.signal.framer = some c) (hcell : c.cell + 1 < cellTotal s.format) :
    cellBoundary s = { s with
      now := max s.now (c.start + (c.cell + 1) * (cellTimes s.format.speed).1)
      signal := { s.signal with framer := some { c with cell := c.cell + 1 } } } := by
  simp only [cellBoundary, hframer, frameCells_eq, hcell, if_true, cellEnd, bitTime_eq]
  rfl

theorem framerCharacterEnd_last (hframer : s.signal.framer = some c) (hcell : c.cell + 1 = cellTotal s.format) :
    framerCharacterEnd s
      = characterEnd c { s with now := max s.now (c.start + (c.cell + 1) * (cellTimes s.format.speed).1) } := by
  simp only [framerCharacterEnd, hframer, frameCells_eq, hcell, if_true, cellEnd, bitTime_eq]
  rfl

theorem characterEnd_free (h : ¬ (s.conn.state = .test ∧ s.conn.loop = .localChar)) (c : FramedChar) :
    characterEnd c s = { s with signal := { s.signal with framer := none } } := by
  have hchar : inLocalChar s.conn = false := by simpa [inLocalChar] using h
  simp only [characterEnd, hchar, Bool.false_eq_true, if_false]

/-- R111: under LOCAL CHAR the character is handed back. -/
theorem characterEnd_back (htest : s.conn.state = .test) (hloop : s.conn.loop = .localChar) (c : FramedChar) :
    characterEnd c s = arrive { code := sentCode s.format c.code, parityBad := false, framingBad := false }
      { s with signal := { s.signal with framer := none, received := min (s.signal.received + 1) 65535 } } := by
  have hchar : inLocalChar s.conn = true := by simp [inLocalChar, htest, hloop]
  simp only [characterEnd, hchar, if_true]
  rfl

/-- Settles O39: each row runs its own operation of the Framer, which acts as its case says. -/
theorem framerSendsCells : Obligations.FramerSendsCells := by
  intro s due hreset bit begun
  refine ⟨fun hfree hstate hbreak hmark => ?_, fun c hframer => ?_, fun hbreak => ?_, fun hmark => ?_⟩
  · have hmay : framerMayTake s = true := by
      refine (framerMayTake_iff s).2 ⟨hfree, ?_, hbreak, hmark⟩
      rcases hstate with (h | h) | h <;> simp [h]
    rw [framerTake_running hreset]
    exact ⟨fun f hslot => settled_congr (framerTake_slot hmay hslot),
      fun code rest hslot hqueue hheld => settled_congr (framerTake_queue hmay hslot hqueue hheld),
      fun hslot hheld => settled_congr (framerTake_held hmay hslot hheld)⟩
  · intro t
    rw [cellBoundary_running hreset, framerCharacterEnd_running hreset]
    refine ⟨fun hcell => settled_congr (cellBoundary_next hframer hcell), fun hcell hloop => ?_, fun hcell htest hloop => ?_⟩
    · rw [framerCharacterEnd_last hframer hcell]
      exact settled_congr (characterEnd_free (s := { s with now := t }) hloop c)
    · rw [framerCharacterEnd_last hframer hcell]
      exact settled_congr (characterEnd_back (s := { s with now := t }) htest hloop c)
  · rw [breakTimerExpiry_due hreset hbreak]
    exact settled_congr (by simp only [endBreak, atMoment, bit, bitTime_eq])
  · rw [breakMarkEnd_due hreset hmark]
    rfl

end Sys2Proof.Steps
end

section
/-!
O38: the Deframer's centres, finished characters, false starts and break watches (R97, R100 to R105).
-/

namespace Sys2Proof.Steps

open Sys2Proof.Machine Sys2Proof.Safety Sys2Proof.Laws

variable {s : State} {f : LineFormat} {edge : Micros} {cells all : List Bool} {spoiled bad b : Bool}

/-! ### What the cells read come to (R101, R102) -/

/-- R101: the number the data cells come to, before its width is fixed. -/
theorem testBit_cells (bits : List Bool) (i : Nat) :
    (bits.foldr (fun (b : Bool) n => 2 * n + (if b then 1 else 0)) 0).testBit i = bits.getD i false := by
  induction bits generalizing i with
  | nil => simp
  | cons b bits ih =>
    have hbit (n : Nat) : 2 * n + (if b then 1 else 0) = Nat.bit b n := by cases b <;> simp [Nat.bit]
    rw [List.foldr_cons, hbit]
    cases i with
    | zero => simp
    | succ i => rw [Nat.testBit_bit_succ, ih, List.getD_cons_succ]

/-- R101: the data cells are the bits of the code, least significant first. -/
theorem getLsbD_codeOf (bits : List Bool) {i : Nat} (hi : i < 8) : (codeOf bits).getLsbD i = bits.getD i false := by
  rw [codeOf, BitVec.getLsbD_ofNat, testBit_cells]
  simp [hi]

theorem codeOf_eq {code : Byte} {bits : List Bool} (h : ∀ i, i < 8 → code.getLsbD i = bits.getD i false) : codeOf bits = code :=
  BitVec.eq_of_getLsbD_eq fun i hi => (getLsbD_codeOf bits hi).trans (h i hi).symm

theorem cellTotal_split (f : LineFormat) : cellTotal f = 1 + dataCells f + parityCells f + stopCells f := rfl

theorem stopCells_pos (f : LineFormat) : 0 < stopCells f := by
  unfold stopCells
  split <;> decide

/-- R102: the last cell read is a stop cell. -/
theorem framingGood_last (hlen : cells.length + 1 = cellTotal f) (h : framingBadOf f (cells ++ [b]) = false) : b = true := by
  have hpos := stopCells_pos f
  have hle : 1 + dataCells f + parityCells f ≤ cells.length := by
    rw [cellTotal_split] at hlen
    omega
  rw [framingBadOf, List.drop_append_of_le_length hle] at h
  simpa using (List.any_eq_false.1 h) b (by simp)

theorem framingBadOf_iff (f : LineFormat) (all : List Bool) :
    framingBadOf f all = decide (false ∈ (all.drop 1).drop (dataCells f + parityCells f)) := by
  rw [framingBadOf, List.drop_drop, Nat.add_assoc]
  exact Bool.eq_iff_iff.2 (by simp)

/-- R101: a parity cell comes before the stop cells. -/
theorem parityCell_lt (hpar : f.parity ≠ .none) (hlen : all.length = cellTotal f) : 1 + dataCells f < all.length := by
  have hone : parityCells f = 1 := if_neg hpar
  rw [hlen, cellTotal_split, hone]
  have := stopCells_pos f
  omega

/-- R101: with a parity cell, the 1s of the data and the parity cell together. -/
theorem ones_withParity (hpar : f.parity ≠ .none) (hlen : all.length = cellTotal f) :
    ((all.drop 1).take (dataCells f + parityCells f)).count true
      = ones (dataOf f all) + if all.getD (1 + dataCells f) false then 1 else 0 := by
  have hone : parityCells f = 1 := if_neg hpar
  have hlt := parityCell_lt hpar hlen
  have hin : dataCells f < (all.drop 1).length := by
    rw [List.length_drop]
    omega
  have hget : all.getD (1 + dataCells f) false = all[1 + dataCells f] := List.getD_eq_getElem _ _ _
  rw [hone, List.take_succ_eq_append_getElem hin, List.count_append, List.getElem_drop, hget, ones, dataOf]
  cases all[1 + dataCells f] <;> rfl

/-- R101: parity_bad, from the number of 1s. -/
theorem parityBadOf_eq (hlen : all.length = cellTotal f) : parityBadOf f all = (match f.parity with
    | .none => false
    | .even => decide (((all.drop 1).take (dataCells f + parityCells f)).count true % 2 = 1)
    | .odd => decide (((all.drop 1).take (dataCells f + parityCells f)).count true % 2 = 0)
    | .mark => !all.getD (1 + dataCells f) false
    | .space => all.getD (1 + dataCells f) false) := by
  by_cases hpar : f.parity = .none
  · simp [parityBadOf, parityGood, hpar]
  · have hlt := parityCell_lt hpar hlen
    have hget (d : Bool) : all.getD (1 + dataCells f) d = all[1 + dataCells f] := List.getD_eq_getElem _ _ _
    rw [ones_withParity hpar hlen, parityBadOf, hget, hget]
    have hparity (m : Nat) : m % 2 = 0 ∨ m % 2 = 1 := Nat.mod_two_eq_zero_or_one m
    cases hp : f.parity with
    | none => exact absurd hp hpar
    | even => rcases hparity (ones (dataOf f all) + if all[1 + dataCells f] then 1 else 0) with h | h <;> simp [parityGood, h]
    | odd => rcases hparity (ones (dataOf f all) + if all[1 + dataCells f] then 1 else 0) with h | h <;> simp [parityGood, h]
    | mark => rfl
    | space => simp [parityGood]

/-! ### The Deframer's moments (R100 to R103) -/

theorem nextCentre_eq (f : LineFormat) (edge : Micros) (cells : List Bool) :
    nextCentre f edge cells = edge + (cellTimes f.speed).2 + cells.length * (cellTimes f.speed).1 := by
  rw [nextCentre, bitTime_eq, halfBit_eq]

theorem centreReached_next (h : s.signal.deframer = .assembling edge cells spoiled) (hlen : cells.length + 1 < cellTotal s.format) :
    centreReached s = { s with
      now := max s.now (edge + (cellTimes s.format.speed).2 + cells.length * (cellTimes s.format.speed).1)
      signal := { s.signal with
        deframer := if cells = [] ∧ s.signal.lineMark = true then .waitStart
          else .assembling edge (cells ++ [s.signal.lineMark]) spoiled } } := by
  simp only [centreReached, h, frameCells_eq, hlen, if_true, nextCentre_eq]
  rfl

theorem characterFinished_last (h : s.signal.deframer = .assembling edge cells spoiled)
    (hlen : cells.length + 1 = cellTotal s.format) :
    characterFinished s = lastCentre edge cells spoiled { s with
      now := max s.now (edge + (cellTimes s.format.speed).2 + cells.length * (cellTimes s.format.speed).1) } := by
  simp only [characterFinished, h, frameCells_eq, hlen, if_true, nextCentre_eq]
  rfl

/-- R101, R102: the character that the cells read come to. -/
def readChar (f : LineFormat) (all : List Bool) : RxChar where
  code := codeOf (dataOf f all)
  parityBad := parityBadOf f all
  framingBad := framingBadOf f all

theorem lastCentre_finished (hlen : cells.length + 1 = cellTotal s.format)
    (h : framingBadOf s.format (cells ++ [s.signal.lineMark]) = false ∨ true ∈ dataOf s.format (cells ++ [s.signal.lineMark])) :
    lastCentre edge cells spoiled s
      = finished (readChar s.format (cells ++ [s.signal.lineMark])) spoiled (setDeframer (.seek s.signal.lineMark) s) := by
  have hseek : (if framingBadOf s.format (cells ++ [s.signal.lineMark]) then Deframer.seek s.signal.lineMark else .waitStart)
      = .seek s.signal.lineMark := by
    split
    · rfl
    · next hgood => rw [framingGood_last hlen (Bool.eq_false_iff.2 hgood)]; rfl
  have hkeep : (framingBadOf s.format (cells ++ [s.signal.lineMark])
      && !(dataOf s.format (cells ++ [s.signal.lineMark])).any id) = false := by
    rcases h with h | h
    · simp [h]
    · have : (dataOf s.format (cells ++ [s.signal.lineMark])).any id = true := List.any_eq_true.2 ⟨true, h, rfl⟩
      simp [this]
  simp only [lastCentre, hkeep, Bool.false_eq_true, if_false, hseek]
  exact finishChar_eq _ _ _

theorem lastCentre_held (hbad : framingBadOf s.format (cells ++ [s.signal.lineMark]) = true)
    (hzero : true ∉ dataOf s.format (cells ++ [s.signal.lineMark])) :
    lastCentre edge cells spoiled s
      = setDeframer (.breakWatch edge (parityBadOf s.format (cells ++ [s.signal.lineMark])) spoiled) s := by
  have hnone : (dataOf s.format (cells ++ [s.signal.lineMark])).any id = false :=
    List.any_eq_false.2 fun b hb => by rintro rfl; exact hzero hb
  simp only [lastCentre, hbad, hnone, Bool.not_false, Bool.and_self, if_true]

/-- R103: the held character 00h is finished. -/
theorem characterFinished_held (h : s.signal.deframer = .breakWatch edge bad spoiled) (hmark : s.signal.lineMark = true) :
    characterFinished s = finished { code := 0, parityBad := bad, framingBad := true } spoiled (setDeframer .waitStart s) := by
  simp only [characterFinished, h, hmark, if_true]
  exact finishChar_eq _ _ _

/-- R103: the watch ends in a break. -/
theorem breakWatchEnd_break (h : s.signal.deframer = .breakWatch edge bad spoiled) (hspace : s.signal.lineMark = false) :
    breakWatchEnd s = breakReceived spoiled { s with
      now := max s.now (edge + 2 * cellTotal s.format * (cellTimes s.format.speed).1) } := by
  simp only [breakWatchEnd, h, hspace, Bool.false_eq_true, if_false, watchEnd, bitTime_eq]
  rfl

theorem isReceived_eq (spoiled : Bool) (s : State) : isReceived spoiled s = (!spoiled && unmuted s) := by
  simp only [isReceived, unmuted, inLocalTone, Bool.decide_or, Bool.decide_and]

theorem breakReceived_eq (spoiled : Bool) (s : State) : breakReceived spoiled s =
    if !spoiled && unmuted s then setLatch .breakSeen (setDeframer .waitMark s) else muteOne (setDeframer .waitMark s) := by
  simp only [breakReceived, isReceived_eq]

/-- Settles O38: each row at its moment, and what the cells read come to. -/
theorem charactersAreFinished : Obligations.CharactersAreFinished := by
  intro s edge cells spoiled bad hreset f n data all t seek letGo
  refine ⟨fun h hlen => ?_, fun h hlen => ?_, fun h hmark => ?_, fun h hspace => ?_⟩
  · rw [cellCentre_running hreset]
    exact settled_congr (centreReached_next h hlen)
  · intro bits ones stops c hcode hparity hframing
    have hall : all.length = cellTotal f := by simp [all, ← hlen, n]
    have hchar : readChar f all = c := by
      obtain ⟨code, parityBad, framingBad⟩ := c
      have hp : parityBadOf f all = parityBad := (parityBadOf_eq hall).trans hparity.symm
      have hf : framingBadOf f all = framingBad := (framingBadOf_iff f all).trans hframing.symm
      simp only [readChar, hp, hf]
      rw [show codeOf (dataOf f all) = code from codeOf_eq hcode]
    rw [characterFinished_running hreset, characterFinished_last h hlen]
    subst hchar
    refine ⟨fun hgood => ?_, fun hbad hzero => ?_⟩
    · exact settled_congr (lastCentre_finished (s := { s with now := t }) hlen hgood)
    · exact settled_congr (lastCentre_held (s := { s with now := t }) hbad hzero)
  · rw [characterFinished_running hreset]
    exact settled_congr (characterFinished_held h hmark)
  · intro past
    rw [breakWatchEnd_running hreset, breakWatchEnd_break h hspace, breakReceived_eq]
    rfl

end Sys2Proof.Steps
end

section
/-!
O40: a framed character is read back by the Deframer of the same format (R100 to R105, R108, R111).
-/

namespace Sys2Proof.Steps

open Sys2Proof.Machine Sys2Proof.Safety Sys2Proof.Laws

variable {s : State} {edge : Micros} {spoiled : Bool}

/-! ### The Framer's cells (R108) -/

theorem sentBits_length (f : LineFormat) (code : Byte) : (sentBits f code).length = dataCells f := by simp [sentBits]

/-- R108: the parity cell, where the format has one. -/
def parityPart (f : LineFormat) (code : Byte) : List Bool :=
  if f.parity = .none then [] else [parityBit f.parity (sentBits f code)]

theorem parityPart_length (f : LineFormat) (code : Byte) : (parityPart f code).length = parityCells f := by
  unfold parityPart parityCells
  split <;> rfl

theorem framedCells_eq (f : LineFormat) (code : Byte) :
    framedCells f code = false :: (sentBits f code ++ (parityPart f code ++ List.replicate (stopCells f) true)) := by
  simp [framedCells, parityPart]

theorem framedCells_length (f : LineFormat) (code : Byte) : (framedCells f code).length = cellTotal f := by
  simp only [framedCells_eq, List.length_cons, List.length_append, sentBits_length, parityPart_length, List.length_replicate,
    cellTotal_split]
  omega

/-! ### What the Deframer makes of them (R101, R102) -/

theorem dataOf_framed (f : LineFormat) (code : Byte) : dataOf f (framedCells f code) = sentBits f code := by
  rw [dataOf, framedCells_eq, List.drop_succ_cons, List.drop_zero, ← sentBits_length f code, List.take_left]

theorem framingGood_framed (f : LineFormat) (code : Byte) : framingBadOf f (framedCells f code) = false := by
  have hstops : (framedCells f code).drop (1 + dataCells f + parityCells f) = List.replicate (stopCells f) true := by
    rw [framedCells_eq, ← List.append_assoc, Nat.add_assoc, Nat.add_comm 1, List.drop_succ_cons]
    exact List.drop_left' (by rw [List.length_append, sentBits_length, parityPart_length])
  rw [framingBadOf, hstops]
  exact List.any_eq_false.2 fun b hb => by simp [List.eq_of_mem_replicate hb]

/-- R101, R108: the parity cell, where there is one, is read as it was sent. -/
theorem parityCell_framed {f : LineFormat} (hpar : f.parity ≠ .none) (code : Byte) (d : Bool) :
    (framedCells f code).getD (1 + dataCells f) d = parityBit f.parity (sentBits f code) := by
  rw [framedCells_eq, parityPart, if_neg hpar, Nat.add_comm, List.getD_cons_succ,
    List.getD_append_right _ _ _ _ (sentBits_length f code).le, sentBits_length, Nat.sub_self]
  rfl

theorem parityGood_framed (f : LineFormat) (code : Byte) : parityBadOf f (framedCells f code) = false := by
  rw [parityBadOf, dataOf_framed]
  by_cases hpar : f.parity = .none
  · simp [parityGood, hpar]
  · rw [parityCell_framed hpar]
    have hbit := Nat.mod_two_eq_zero_or_one (ones (sentBits f code))
    cases hp : f.parity with
    | none => exact absurd hp hpar
    | even => rcases hbit with h | h <;> simp [parityGood, parityBit, h, Nat.add_mod]
    | odd => rcases hbit with h | h <;> simp [parityGood, parityBit, h, Nat.add_mod]
    | mark => rfl
    | space => rfl

/-- R101, R111: the data cells sent come to the code sent. -/
theorem codeOf_sentBits (f : LineFormat) (code : Byte) : codeOf (sentBits f code) = sentCode f code := by
  have hlow : ∀ i, i < 8 → (0x7F#8).getLsbD i = decide (i < 7) := by decide
  refine codeOf_eq fun i hi => ?_
  by_cases height : f.eightBits = true
  · simp [sentCode, sentBits, dataCells, height, hi]
  · by_cases hseven : i < 7 <;> simp [sentCode, sentBits, dataCells, height, hlow i hi, hseven]

theorem readChar_framed (f : LineFormat) (code : Byte) :
    readChar f (framedCells f code) = { code := sentCode f code, parityBad := false, framingBad := false } := by
  simp only [readChar, dataOf_framed, codeOf_sentBits, parityGood_framed, framingGood_framed]

/-! ### Centre by centre (R100) -/

/-- R100: what a character framed by the Framer leaves, once its cells are heard. -/
def readBack (edge : Micros) (spoiled : Bool) (code : Byte) (s : State) : State :=
  finished { code := sentCode s.format code, parityBad := false, framingBad := false } spoiled { s with
    now := max s.now (edge + (cellTimes s.format.speed).2 + (cellTotal s.format - 1) * (cellTimes s.format.speed).1)
    signal := { s.signal with lineMark := true, deframer := .waitStart } }

/-- R102: the last cell. -/
theorem heard_last {read : List Bool} {b : Bool} {code : Byte} (h : s.signal.deframer = .assembling edge read spoiled)
    (hcells : read ++ [b] = framedCells s.format code) : heard [b] s = readBack edge spoiled code s := by
  have hlen : read.length + 1 = cellTotal s.format := by
    rw [← framedCells_length s.format code, ← hcells, List.length_append, List.length_singleton]
  have hgood : framingBadOf s.format (read ++ [b]) = false := hcells ▸ framingGood_framed s.format code
  obtain rfl := framingGood_last hlen hgood
  have hpred : cellTotal s.format - 1 = read.length := by omega
  rw [heard, characterFinished_last (s := { s with signal := { s.signal with lineMark := true } }) h hlen]
  refine (lastCentre_finished (s := { s with now := _, signal := { s.signal with lineMark := true } }) hlen (.inl hgood)).trans ?_
  simp only [hcells, readChar_framed, readBack, hpred]
  rfl

/-- R100: a cell before the last moves the Deframer on, and what the character comes to stands. -/
theorem heard_next {read rest : List Bool} {b : Bool} {code : Byte} (h : s.signal.deframer = .assembling edge read spoiled)
    (hcells : read ++ b :: rest = framedCells s.format code) (hrest : rest ≠ []) :
    ∃ u, heard (b :: rest) s = heard rest u ∧ u.format = s.format
      ∧ u.signal.deframer = .assembling edge (read ++ [b]) spoiled
      ∧ readBack edge spoiled code u = readBack edge spoiled code s := by
  have hlen : read.length + 1 < cellTotal s.format := by
    rw [← framedCells_length s.format code, ← hcells, List.length_append, List.length_cons]
    have := List.length_pos_iff.2 hrest
    omega
  have hstart : ¬ (read = [] ∧ b = true) := by
    rintro ⟨rfl, rfl⟩
    simp [framedCells_eq] at hcells
  have hcentre := centreReached_next (s := { s with signal := { s.signal with lineMark := b } }) h hlen
  simp only [if_neg hstart] at hcentre
  refine ⟨centreReached { s with signal := { s.signal with lineMark := b } }, ?_, ?_, ?_, ?_⟩
  · obtain ⟨b', rest', rfl⟩ := List.exists_cons_of_ne_nil hrest
    rfl
  · rw [hcentre]
  · rw [hcentre]
  · have hlater : edge + (cellTimes s.format.speed).2 + read.length * (cellTimes s.format.speed).1
        ≤ edge + (cellTimes s.format.speed).2 + (cellTotal s.format - 1) * (cellTimes s.format.speed).1 :=
      Nat.add_le_add_left (Nat.mul_le_mul_right _ (by omega)) _
    rw [hcentre]
    simp only [readBack, max_assoc, max_eq_right hlater]

theorem heard_framed {rest : List Bool} (hrest : rest ≠ []) {read : List Bool} {code : Byte}
    (h : s.signal.deframer = .assembling edge read spoiled) (hcells : read ++ rest = framedCells s.format code) :
    heard rest s = readBack edge spoiled code s := by
  induction rest generalizing read s with
  | nil => exact absurd rfl hrest
  | cons b rest ih =>
    rcases rest with _ | ⟨b', rest⟩
    · exact heard_last h hcells
    · obtain ⟨u, hnext, hformat, hdeframer, hsame⟩ := heard_next h hcells (List.cons_ne_nil _ _)
      rw [hnext, ih (List.cons_ne_nil _ _) hdeframer (by rw [hformat, ← hcells, List.append_assoc]; rfl), hsame]

/-- Settles O40: the cells are those of the format, and are heard one by one. -/
theorem framedCharacterReadsBack : Obligations.FramedCharacterReadsBack := by
  intro s edge spoiled code h
  have hsome : framedCells s.format code ≠ [] := by
    rw [framedCells_eq]
    exact List.cons_ne_nil _ _
  exact ⟨framedCells_length _ _, heard_framed hsome h rfl⟩

end Sys2Proof.Steps
end

section
/-!
O42: a window is judged, and its runs make the carrier PRESENT or ABSENT (R113 to R118).
-/

namespace Sys2Proof.Steps

open Sys2Proof.Machine Sys2Proof.Safety Sys2Proof.Laws

variable {s : State} {m : Monitor} {good ignore : Bool}

/-! ### What a window is judged by -/

/-- R114: the least total is that of the listen channel. -/
theorem windowGood_listen (s : State) (m : Monitor) : windowGood (listenChannel s.conn) m
    = decide (m.total * 3 ≤ m.inBand * 4 ∧ (if listensLow s then 14 else 30) ≤ m.total) := by
  rw [windowGood, listenChannel_eq, Bool.decide_and]
  cases listensLow s <;> rfl

theorem levelIgnored_eq (s : State) :
    levelIgnored s = decide (s.monitor.weak = true ∨ (s.conn.state = .test ∧ s.conn.loop = .localTone)) := by
  simp [levelIgnored, inLocalTone]

/-- R113, R115: the monitor with the next window begun and the level state judged. -/
def nextWindow (s : State) : Monitor := { s.monitor with
  total := 0, inBand := 0, window := some (s.now + 10000)
  levelHigh := levelAfter s.monitor.noisy s.monitor.levelHigh (levelCode s) }

theorem windowJudged_absent (h : s.monitor.present = false) : windowJudged s
    = windowAbsent (windowGood (listenChannel s.conn) s.monitor) (levelIgnored s) (nextWindow s) :=
  if_neg (by simp [h])

theorem windowJudged_present (h : s.monitor.present = true) : windowJudged s
    = windowPresent (windowGood (listenChannel s.conn) s.monitor) (levelIgnored s) (nextWindow s) :=
  if_pos h

/-! ### Whether a run reaches its figure (R116, R117) -/

/-- R116: the qualifying run after a window. -/
def qualifyingAfter (good ignore : Bool) (m : Monitor) : Nat :=
  if good && (m.levelHigh || ignore) then runUp m.qualifying else 0

theorem windowAbsent_below (h : qualifyingAfter good ignore m < qualifyingFigure m.weak) :
    windowAbsent good ignore m = ({ m with qualifying := qualifyingAfter good ignore m }, .none) :=
  if_neg (Nat.not_le.2 h)

theorem windowAbsent_reached (h : qualifyingFigure m.weak ≤ qualifyingAfter good ignore m) : windowAbsent good ignore m
    = ({ m with present := true, qualifying := 0, badRun := 0, lowRun := 0 }, .present) :=
  if_pos h

/-- R117: the bad run after a window. -/
def badAfter (good : Bool) (m : Monitor) : Nat := if good then 0 else runUp m.badRun

/-- R117: the low run after a window. -/
def lowAfter (m : Monitor) : Nat := if m.levelHigh then 0 else runUp m.lowRun

theorem windowPresent_below (hbad : badAfter good m < 6) (hlow : lowAfter m < 6 ∨ ignore = true) :
    windowPresent good ignore m = ({ m with badRun := badAfter good m, lowRun := lowAfter m }, .none) := by
  refine if_neg ?_
  rintro (h | ⟨h, hjudged⟩)
  · exact absurd h (Nat.not_le.2 hbad)
  · rcases hlow with hlow | hignore
    · exact absurd h (Nat.not_le.2 hlow)
    · simp [hignore] at hjudged

theorem windowPresent_reached (h : 6 ≤ badAfter good m ∨ (6 ≤ lowAfter m ∧ ignore = false)) : windowPresent good ignore m
    = ({ m with present := false, qualifying := 0, badRun := 0, lowRun := 0 }, .absent) :=
  if_pos h

/-! ### What is handed on -/

theorem endWindow_none (h : windowJudged s = (m, .none)) : endWindow s = { s with monitor := m } := by
  simp only [endWindow, h]

theorem endWindow_present (h : windowJudged s = (m, .present)) : endWindow s = onPresent { s with monitor := m } := by
  simp only [endWindow, h]

theorem endWindow_absent (h : windowJudged s = (m, .absent)) : endWindow s = onAbsent { s with monitor := m } := by
  simp only [endWindow, h]

/-- Settles O42: by whether the carrier is PRESENT, and whether a run reaches its figure. -/
theorem windowsAreJudged : Obligations.WindowsAreJudged := by
  intro s due hreset hwindow t good code high ignored m during run bad low needed
  have hgood : windowGood (listenChannel s.conn) s.monitor = good := windowGood_listen s s.monitor
  have hignored : levelIgnored s = ignored := levelIgnored_eq s
  have habsent (h : s.monitor.present = false) : windowJudged (atMoment due s) = windowAbsent good ignored m := by
    rw [← hgood, ← hignored]
    exact windowJudged_absent (s := atMoment due s) h
  have hpresent (h : s.monitor.present = true) : windowJudged (atMoment due s) = windowPresent good ignored m := by
    rw [← hgood, ← hignored]
    exact windowJudged_present (s := atMoment due s) h
  rw [carrierWindowEnd_due hreset hwindow]
  refine ⟨fun h hrun => settled_congr ?_, fun h hrun => settled_congr ?_, fun h hbad hlow => settled_congr ?_,
    fun h hrun => settled_congr ?_⟩
  · exact endWindow_none ((habsent h).trans (windowAbsent_below hrun))
  · exact endWindow_present ((habsent h).trans (windowAbsent_reached hrun))
  · exact endWindow_none ((hpresent h).trans (windowPresent_below hbad hlow))
  · exact endWindow_absent ((hpresent h).trans (windowPresent_reached hrun))

end Sys2Proof.Steps
end

section
/-!
O43: the moves of the connect state on carrier transitions and timers (R121 to R125, R127, R129, R130, R170).
-/

namespace Sys2Proof.Steps

open Sys2Proof.Machine Sys2Proof.Safety Sys2Proof.Laws

variable {s : State}

/-! ### A change of the connect state -/

/-- R130: what a move in a call leaves: the settle and the dropout timer as the state entered has them, the other two timers
stopped, and the Link Port told. -/
def movedTo (state : ConnState) (settle dropout : Timer) (s : State) : State := { s with
  conn := { s.conn with state := state, connectTimer := none, settleTimer := settle, dropoutTimer := dropout
                        clearingTimer := none }
  link := told s.link }

/-- R130, R170: a change to ONLINE or FADE judges local hold. -/
theorem changeConn_open (new : Conn) (s : State) (h : breakAllowed new = true) : changeConn new s
    = judgeHold { s with conn := new, signal := s.signal.onChange s.conn new, link := told s.link } := by
  simp only [changeConn, h, if_true, pendLine_eq_told]

theorem inLocalTone_untested {c : Conn} (h : c.state ≠ .test) : inLocalTone c = false :=
  Bool.eq_false_iff.2 fun htone => h ((inLocalTone_iff c).1 htone).1

/-- R104, R110: a move into an open call from elsewhere in a call: a break timer runs on, and the character in hand is spoiled
where the state leaves ONLINE. -/
theorem onChange_open {old new : Conn} (hnew : breakAllowed new = true) (hold : old.state ≠ .test) (g : Signal) :
    g.onChange old new = { g with
      deframer := if old.state = .online ∧ new.state ≠ .online then g.deframer.spoil else g.deframer } := by
  have htest : new.state ≠ .test := fun h => by simp [breakAllowed, h] at hnew
  simp [Signal.onChange, spoils, hnew, inLocalTone_untested hold, inLocalTone_untested htest]

/-- R121: SETTLE is entered from WAIT ANSWER. -/
theorem enterSettle_waitAnswer (h : s.conn.state = .waitAnswer) : enterSettle s
    = { movedTo .settle (some (s.now + 400000)) none s with signal := { s.signal with breakTimer := none } } := by
  rw [enterSettle, changeConn_closed _ _ rfl, onChange_calm rfl (by simp [h])]
  · rfl
  · rw [inLocalTone_untested (by simp [h]), inLocalTone_untested (by simp [Conn.to])]

/-- ONLINE is entered from elsewhere in a call. -/
theorem enterOnline_call (h : s.conn.state ≠ .test) : enterOnline s = judgeHold (movedTo .online none none s) := by
  rw [enterOnline, changeConn_open _ _ rfl, onChange_open rfl h, if_neg (fun hleft => hleft.2 rfl)]
  rfl

/-- R104, R124: FADE is entered from ONLINE. -/
theorem enterFade_online (h : s.conn.state = .online) : enterFade s
    = judgeHold (movedTo .fade none (some (s.now + 1000 * s.monitor.dropoutHold))
        { s with signal := { s.signal with deframer := s.signal.deframer.spoil } }) := by
  rw [enterFade, changeConn_open _ _ rfl, onChange_open rfl (by simp [h]), if_pos ⟨h, by simp [Conn.to]⟩]
  rfl

/-- R123: FADE is entered from SETTLE. -/
theorem enterFade_settle (h : s.conn.state = .settle) : enterFade s
    = judgeHold (movedTo .fade none (some (s.now + 1000 * s.monitor.dropoutHold)) s) := by
  rw [enterFade, changeConn_open _ _ rfl, onChange_open rfl (by simp [h]), if_neg (by simp [h])]
  rfl

/-! ### Transitions (R121 to R125) -/

theorem onPresent_unused (h : s.conn.state ∉ [.waitAnswer, .answering, .fade]) : onPresent s = s := by
  unfold onPresent
  split <;> simp_all

theorem onAbsent_unused (h : s.conn.state ≠ .online) : onAbsent s = s := by
  unfold onAbsent
  split
  · contradiction
  all_goals rfl

/-! ### The settle timer (R123) -/

theorem endSettleTimer_settle (h : s.conn.state = .settle) : endSettleTimer s = if s.monitor.present
    then judgeHold (movedTo .online none none s)
    else judgeHold (movedTo .fade none (some (s.now + 1000 * s.monitor.dropoutHold)) s) := by
  rw [endSettleTimer, enterOnline_call (by simp [h]), enterFade_settle h]

/-- Settles O43: each transition by the connect state, and each timer by the state its end enters. -/
theorem callMoves : Obligations.CallMoves := by
  intro s due toState online fade latch late
  refine ⟨fun h => ?_, fun h => ?_, fun h => ?_, onPresent_unused, fun h => ?_, onAbsent_unused, fun hreset =>
    ⟨fun ht => ?_, fun ht h => ?_, fun ht => ?_, fun ht => ?_⟩⟩
  · simp only [onPresent, h]
    exact enterSettle_waitAnswer h
  · simp only [onPresent, h]
    exact enterOnline_call (by simp [h])
  · simp only [onPresent, h]
    exact congrArg (setLatch .carrierFaded) (enterOnline_call (by simp [h]))
  · simp only [onAbsent, h]
    exact enterFade_online h
  · rw [connectTimerExpiry_due hreset ht, endConnectTimer, enterIdle_eq_idled]
    rfl
  · rw [settleTimerExpiry_due hreset ht]
    exact settled_congr (endSettleTimer_settle (s := late) h)
  · rw [dropoutTimerExpiry_due hreset ht, endDropoutTimer, enterIdle_eq_idled]
    rfl
  · rw [clearingTimerExpiry_due hreset ht, enterIdle_eq_idled]
    rfl

end Sys2Proof.Steps
end

section
/-!
O49: a position reads down exactly when a chain of closed keys joins its lines (R136).
-/

namespace Sys2Proof.Steps

open Sys2Proof.Machine Sys2Proof.Safety

variable {closed : List Nat} {d c n : Nat}

theorem contact_iff (closed : List Nat) (d c : Nat) : contact closed d c = true ↔ d * 9 + c ∈ closed := by
  simp [contact]

theorem mem_sensesOf {drives : List Nat} :
    c ∈ sensesOf closed drives ↔ c < 9 ∧ ∃ e ∈ drives, e * 9 + c ∈ closed := by
  simp [sensesOf, contact_iff]

theorem mem_drivesOf {senses : List Nat} :
    d ∈ drivesOf closed senses ↔ d < 8 ∧ ∃ c ∈ senses, d * 9 + c ∈ closed := by
  simp [drivesOf, contact_iff]

theorem sensesOf_mono {drives drives' : List Nat} (h : drives ⊆ drives') :
    sensesOf closed drives ⊆ sensesOf closed drives' := by
  intro c hc
  obtain ⟨hlt, e, he, hkey⟩ := mem_sensesOf.1 hc
  exact mem_sensesOf.2 ⟨hlt, e, h he, hkey⟩

theorem drivesOf_sublist {senses senses' : List Nat} (h : senses ⊆ senses') :
    (drivesOf closed senses).Sublist (drivesOf closed senses') := by
  refine List.monotone_filter_right _ fun e he => ?_
  obtain ⟨c, hc, hkey⟩ := List.any_eq_true.1 he
  exact List.any_eq_true.2 ⟨c, h hc, hkey⟩

/-! ### What each length of chain reaches -/

/-- The sense lines that chains with at most `n` further drive lines join to drive line `d`. -/
abbrev reached (closed : List Nat) (d n : Nat) : List Nat := sensesOf closed (joinedDrives closed d n)

theorem chain_of_reached (hc : c ∈ reached closed d n) : Chain closed d c := by
  induction n generalizing c with
  | zero =>
    obtain ⟨hlt, e, he, hkey⟩ := mem_sensesOf.1 hc
    obtain rfl := List.mem_singleton.1 he
    exact .direct c hkey hlt
  | succ n ih =>
    obtain ⟨hlt, e, he, hkey⟩ := mem_sensesOf.1 hc
    obtain ⟨he8, c', hc', hkey'⟩ := mem_drivesOf.1 he
    exact .through c c' e (ih hc') he8 hkey' hkey hlt

theorem reached_of_chain (h : Chain closed d c) : ∃ n, c ∈ reached closed d n := by
  induction h with
  | direct c hkey hlt => exact ⟨0, mem_sensesOf.2 ⟨hlt, d, List.mem_singleton_self d, hkey⟩⟩
  | through c c' e _ he8 hkey' hkey hlt ih =>
    obtain ⟨n, hn⟩ := ih
    exact ⟨n + 1, mem_sensesOf.2 ⟨hlt, e, mem_drivesOf.2 ⟨he8, c', hn, hkey'⟩, hkey⟩⟩

theorem first_key_of_chain (h : Chain closed d c) : ∃ c0 < 9, d * 9 + c0 ∈ closed := by
  induction h with
  | direct c hkey hlt => exact ⟨c, hlt, hkey⟩
  | through _ _ _ _ _ _ _ _ ih => exact ih

/-! ### Eight drive lines: chains of seven further ones reach all -/

/-- A drive line that has a closed key stays joined to itself, so longer chains join no fewer drive lines. -/
theorem joinedDrives_sublist_succ (hd : d < 8) {c0 : Nat} (hc0 : c0 < 9) (hkey : d * 9 + c0 ∈ closed) (n : Nat) :
    (joinedDrives closed d n).Sublist (joinedDrives closed d (n + 1)) := by
  induction n with
  | zero =>
    have hreached : c0 ∈ reached closed d 0 := mem_sensesOf.2 ⟨hc0, d, List.mem_singleton_self d, hkey⟩
    exact List.singleton_sublist.2 (mem_drivesOf.2 ⟨hd, c0, hreached, hkey⟩)
  | succ n ih => exact drivesOf_sublist (sensesOf_mono ih.subset)

theorem joinedDrives_length_le (closed : List Nat) (d n : Nat) : (joinedDrives closed d n).length ≤ 8 := by
  cases n with
  | zero => exact Nat.succ_le_succ (Nat.zero_le 7)
  | succ n => exact (List.length_filter_le _ _).trans_eq List.length_range

/-- The drive lines joined grow from one to at most eight, and once they do not grow they never do: seven steps are all. -/
theorem joinedDrives_stable (hd : d < 8) {c0 : Nat} (hc0 : c0 < 9) (hkey : d * 9 + c0 ∈ closed) (hn : 7 ≤ n) :
    joinedDrives closed d n = joinedDrives closed d 7 := by
  have hgrow := joinedDrives_sublist_succ hd hc0 hkey
  have hmono : Monotone fun m => (joinedDrives closed d m).length := monotone_nat_of_le_succ fun m => (hgrow m).length_le
  have hone (m : Nat) : 1 ≤ (joinedDrives closed d m).length := hmono (Nat.zero_le m)
  have hsame : (joinedDrives closed d n).length - 1 = (joinedDrives closed d 7).length - 1 := by
    refine Nat.stabilises_of_monotone (f := fun m => (joinedDrives closed d m).length - 1)
      (fun _ _ h => Nat.sub_le_sub_right (hmono h) 1) (fun m => Nat.sub_le_sub_right (joinedDrives_length_le closed d m) 1)
      (fun m hm => ?_) hn
    have heq : joinedDrives closed d m = joinedDrives closed d (m + 1) :=
      (hgrow m).eq_of_length (by have := hone m; have := hone (m + 1); omega)
    exact congrArg (fun drives => (drivesOf closed (sensesOf closed drives)).length - 1) heq
  have hall : (joinedDrives closed d 7).Sublist (joinedDrives closed d n) :=
    Nat.le_induction (.refl _) (fun m _ h => h.trans (hgrow m)) n hn
  exact (hall.eq_of_length (by have := hone n; have := hone 7; omega)).symm

theorem reached_seven_of_chain (hd : d < 8) (h : Chain closed d c) : c ∈ reached closed d 7 := by
  obtain ⟨c0, hc0, hkey⟩ := first_key_of_chain h
  obtain ⟨n, hn⟩ := reached_of_chain h
  rcases Nat.le_total n 7 with hle | hge
  · have hsub : (joinedDrives closed d n).Sublist (joinedDrives closed d 7) :=
      Nat.le_induction (.refl _) (fun m _ h => h.trans (joinedDrives_sublist_succ hd hc0 hkey m)) 7 hle
    exact sensesOf_mono hsub.subset hn
  · rwa [reached, joinedDrives_stable hd hc0 hkey hge] at hn

theorem readings_length (closed : List Nat) (d : Nat) : (readings closed d).length = 9 := by simp [readings]

theorem readings_getD (closed : List Nat) (d : Nat) (hc : c < 9) :
    (readings closed d).getD c false = true ↔ c ∈ reached closed d 7 := by
  simp [readings, List.getD, hc]

/-- Settles O49: the chains of seven further drive lines that the readings follow are all there are. -/
theorem matrixReadsChains : Obligations.MatrixReadsChains := by
  intro closed d hd
  refine ⟨readings_length closed d, fun c hc => ?_⟩
  have hreads : (readings closed d).getD c false = true ↔ Chain closed d c :=
    (readings_getD closed d hc).trans ⟨chain_of_reached, reached_seven_of_chain hd⟩
  refine ⟨hreads, fun hkey => hreads.2 (.direct c hkey hc), fun c' d' hc' hd' h1 h2 h3 => hreads.2 ?_⟩
  exact .through c c' d' (.direct c' h1 hc') hd' h2 h3 hc

end Sys2Proof.Steps
end

section
/-!
O50: the reading of a drive line: its nine positions in the first pass and, debounced, from the second pass on (R136 to R140).
-/

namespace Sys2Proof.Steps

open Sys2Proof.Machine Sys2Proof.Safety Sys2Proof.Laws

variable {s : State} {k : Keys} {p d : Nat}

/-! ### The positions of a reading (R137) -/

theorem linePositions_fst (closed : List Nat) (d : Nat) :
    (linePositions d (readings closed d)).map Prod.fst = List.range' (d * 9) 9 := by
  unfold linePositions
  exact List.map_fst_zip (by simp [readings])

theorem mem_linePositions (closed : List Nat) (d p : Nat) (b : Bool) :
    (p, b) ∈ linePositions d (readings closed d)
      ↔ (9 * d ≤ p ∧ p < 9 * d + 9) ∧ b = (readings closed d).getD (p - 9 * d) false := by
  simp only [linePositions, List.mem_iff_getElem?, List.getElem?_zip_eq_some, List.getD]
  constructor
  · rintro ⟨i, hp, hb⟩
    obtain ⟨hi, rfl⟩ := List.getElem?_eq_some_iff.1 hp
    rw [List.length_range'] at hi
    rw [List.getElem_range']
    have hindex : d * 9 + 1 * i - 9 * d = i := by omega
    exact ⟨by omega, by rw [hindex, hb]; rfl⟩
  · rintro ⟨hp, rfl⟩
    have hlt : p - 9 * d < (readings closed d).length := by rw [readings_length]; omega
    refine ⟨p - 9 * d, ?_, by rw [List.getElem?_eq_getElem hlt]; rfl⟩
    rw [List.getElem?_range' (by omega)]
    exact congrArg some (by omega)

theorem mem_linePositions_fst (closed : List Nat) (d p : Nat) :
    p ∈ (linePositions d (readings closed d)).map Prod.fst ↔ 9 * d ≤ p ∧ p < 9 * d + 9 := by
  rw [linePositions_fst, List.mem_range'_1]
  omega

theorem edges_ascending (edge : KeyEdge) (closed : List Nat) (d : Nat) (k : Keys) :
    (k.edges edge (linePositions d (readings closed d))).Pairwise (· < ·) := by
  refine List.Pairwise.sublist (List.filter_sublist.map Prod.fst) ?_
  rw [linePositions_fst]
  exact List.pairwise_lt_range'

/-! ### Records changed, and nothing else -/

theorem foldl_mapRecord_frame {α : Type} (at' : α → Nat) (f : α → KeyRecord → KeyRecord) (xs : List α) (k : Keys) :
    let k' := xs.foldl (fun k' x => k'.mapRecord (at' x) (f x)) k
    k' = { k with records := k'.records } ∧ k'.records.length = k.records.length :=
  foldl_keeps (P := fun k' => k' = { k with records := k'.records } ∧ k'.records.length = k.records.length)
    (fun _ _ ⟨hframe, hlength⟩ => ⟨by rw [hframe]; rfl, (List.length_modify _ _ _).trans hlength⟩) xs k ⟨rfl, rfl⟩

theorem debounceAll_frame (ps : List (Nat × Bool)) (k : Keys) :
    k.debounceAll ps = { k with records := (k.debounceAll ps).records } ∧ (k.debounceAll ps).records.length = k.records.length :=
  foldl_mapRecord_frame Prod.fst (fun x r => (r.debounce k.debounce x.2).1) ps k

theorem firstAll_frame (ps : List (Nat × Bool)) (k : Keys) :
    k.firstAll ps = { k with records := (k.firstAll ps).records } ∧ (k.firstAll ps).records.length = k.records.length :=
  foldl_mapRecord_frame Prod.fst (fun x _ => KeyRecord.firstReading x.2) ps k

/-- R139: the readings of the first pass, record by record. -/
theorem firstAll_records (down : Nat → Bool) (ps : List (Nat × Bool)) (hps : ∀ x ∈ ps, x.2 = down x.1) (k : Keys) (q : Nat) :
    (k.firstAll ps).records[q]? = if q ∈ ps.map Prod.fst then k.records[q]?.map fun _ => KeyRecord.firstReading (down q)
      else k.records[q]? := by
  induction ps generalizing k with
  | nil => rfl
  | cons x ps ih =>
    obtain ⟨p, b⟩ := x
    obtain ⟨hb, hrest⟩ := List.forall_mem_cons.1 hps
    obtain rfl : b = down p := hb
    have hstep : k.firstAll ((p, down p) :: ps) = (k.mapRecord p fun _ => KeyRecord.firstReading (down p)).firstAll ps := rfl
    rw [hstep, ih hrest, Keys.mapRecord, List.getElem?_modify]
    by_cases hq : p = q
    · subst hq
      simp [Function.comp_def]
    · simp [hq, Ne.symm hq]

/-! ### One record debounced (R138) -/

theorem debounce_agrees {r : KeyRecord} (limit : Nat) {down : Bool} (h : down = r.down) :
    r.debounce limit down = ({ r with count := 0, latest := down }, .none) := if_pos h

theorem debounce_counts {r : KeyRecord} {limit : Nat} {down : Bool} (h : down ≠ r.down) (hbelow : r.count + 1 < limit) :
    r.debounce limit down = ({ r with count := r.count + 1, latest := down }, .none) := by
  rw [KeyRecord.debounce, if_neg h, if_neg (Nat.not_le.2 hbelow)]

theorem debounce_turns {r : KeyRecord} {limit : Nat} {down : Bool} (h : down ≠ r.down) (hlimit : limit ≤ r.count + 1) :
    r.debounce limit down = ({ r with down := down, count := 0, latest := down }, if r.down then .up else .down) := by
  have hdown : down = !r.down := Bool.eq_not.2 h
  rw [KeyRecord.debounce, if_neg h, if_pos hlimit, hdown]
  cases r.down <;> rfl

/-- R138: a key-up is a turn of a position that was DOWN, a key-down a turn of one that was UP. -/
theorem debounce_edge_iff (r : KeyRecord) (limit : Nat) (down : Bool) :
    ((r.debounce limit down).2 = .up ↔ (down ≠ r.down ∧ limit ≤ r.count + 1) ∧ r.down = true)
      ∧ ((r.debounce limit down).2 = .down ↔ (down ≠ r.down ∧ limit ≤ r.count + 1) ∧ r.down = false) := by
  by_cases h : down = r.down
  · rw [debounce_agrees limit h]
    simp [h]
  · rcases Nat.lt_or_ge (r.count + 1) limit with hbelow | hlimit
    · simp [debounce_counts h hbelow, Nat.not_le.2 hbelow]
    · rw [debounce_turns h hlimit]
      cases hr : r.down <;> simp_all

/-- The position's one reading of a drive line decides whether it is an edge. -/
theorem mem_edges_line (edge : KeyEdge) (closed : List Nat) {r : KeyRecord} (hp : 9 * d ≤ p ∧ p < 9 * d + 9)
    (hr : k.records[p]? = some r) : p ∈ k.edges edge (linePositions d (readings closed d))
      ↔ (r.debounce k.debounce ((readings closed d).getD (p - 9 * d) false)).2 = edge := by
  rw [mem_edges, record_of_getElem? hr]
  constructor
  · rintro ⟨b, hmem, hedge⟩
    obtain ⟨-, rfl⟩ := (mem_linePositions closed d p b).1 hmem
    exact hedge
  · exact fun hedge => ⟨_, (mem_linePositions closed d p _).2 ⟨hp, rfl⟩, hedge⟩

theorem line_of_mem_edges {edge : KeyEdge} {closed : List Nat} (h : p ∈ k.edges edge (linePositions d (readings closed d))) :
    9 * d ≤ p ∧ p < 9 * d + 9 := by
  obtain ⟨b, hmem, -⟩ := (mem_edges edge _ k p).1 h
  exact ((mem_linePositions closed d p b).1 hmem).1

/-- R138: a reading of a drive line debounces its own nine positions and no other. -/
theorem debounceAll_line (closed : List Nat) (d : Nat) (k : Keys) :
    (∀ p, ¬ (9 * d ≤ p ∧ p < 9 * d + 9) → (k.debounceAll (linePositions d (readings closed d))).records[p]? = k.records[p]?)
      ∧ ∀ p r, 9 * d ≤ p ∧ p < 9 * d + 9 → k.records[p]? = some r →
        (k.debounceAll (linePositions d (readings closed d))).records[p]?
          = some (r.debounce k.debounce ((readings closed d).getD (p - 9 * d) false)).1 := by
  obtain ⟨hout, hin⟩ := debounceAll_records _ (linePositions_nodup closed d) k k
  refine ⟨fun p hp => hout p (mt (mem_linePositions_fst closed d p).1 hp), fun p r hp hr => ?_⟩
  have := hin p _ ((mem_linePositions closed d p _).2 ⟨hp, rfl⟩)
  rwa [hr] at this

/-- R139: a reading of the first pass sets its own nine positions and no other. -/
theorem firstAll_line (closed : List Nat) (d : Nat) (k : Keys) :
    (∀ p, ¬ (9 * d ≤ p ∧ p < 9 * d + 9) → (k.firstAll (linePositions d (readings closed d))).records[p]? = k.records[p]?)
      ∧ ∀ p, 9 * d ≤ p ∧ p < 9 * d + 9 → p < k.records.length →
        (k.firstAll (linePositions d (readings closed d))).records[p]?
          = some (KeyRecord.firstReading ((readings closed d).getD (p - 9 * d) false)) := by
  have hfirst := firstAll_records (fun p => (readings closed d).getD (p - 9 * d) false) (linePositions d (readings closed d))
    (fun x hx => ((mem_linePositions closed d x.1 x.2).1 hx).2) k
  refine ⟨fun p hp => ?_, fun p hp hlt => ?_⟩
  · rw [hfirst, if_neg (mt (mem_linePositions_fst closed d p).1 hp)]
  · rw [hfirst, if_pos ((mem_linePositions_fst closed d p).2 hp), List.getElem?_eq_getElem hlt]
    rfl

/-! ### The reading that is due -/

theorem driveLow_iff {due : Micros} (h : s.keys.slot = some due) (n : Nat) : driveLow s n = true ↔ n = s.keys.scanLine := by
  simp [driveLow, h, eq_comm]

theorem nextSlot_eq (t : Micros) (k : Keys) : k.nextSlot t = { k with
    scanLine := (k.scanLine + 1) % 8, firstPass := k.firstPass && decide (k.scanLine < 7), slot := some (t + 500) } := by
  have hlast : decide (k.scanLine + 1 < 8) = decide (k.scanLine < 7) := decide_eq_decide.2 Nat.succ_lt_succ_iff
  rw [Keys.nextSlot, hlast]

/-- A reading that changes records alone leaves this of the scanner. -/
theorem scanned_of_frame {t : Micros} {k' : Keys} (h : k' = { k.nextSlot t with records := k'.records }) : k' = { k with
    records := k'.records, scanLine := (k.scanLine + 1) % 8, firstPass := k.firstPass && decide (k.scanLine < 7)
    slot := some (t + 500) } :=
  h.trans (by rw [nextSlot_eq])

theorem scanReading_first (closed : List Nat) (h : s.keys.firstPass = true) : scanReading closed s = { s with
    keys := (s.keys.nextSlot s.now).firstAll (linePositions s.keys.scanLine (readings closed s.keys.scanLine)) } := if_pos h

theorem scanReading_later (closed : List Nat) (h : s.keys.firstPass = false) :
    scanReading closed s = handleEdges
      (s.keys.edges .up (linePositions s.keys.scanLine (readings closed s.keys.scanLine)))
      (s.keys.edges .down (linePositions s.keys.scanLine (readings closed s.keys.scanLine)))
      { s with
        keys := (s.keys.nextSlot s.now).debounceAll (linePositions s.keys.scanLine (readings closed s.keys.scanLine)) } :=
  if_neg (Bool.eq_false_iff.1 h)

/-- Settles O50: by the pass, and record by record. -/
theorem scanReadingsAreDebounced : Obligations.ScanReadingsAreDebounced := by
  intro s due closed hreset hslot hlength hline line down ours t scanned
  refine ⟨driveLow_iff hslot, ?_⟩
  rw [scanReading_due closed hreset hslot]
  cases hpass : s.keys.firstPass with
  | true =>
    obtain ⟨hout, hin⟩ := firstAll_line closed line (s.keys.nextSlot t)
    obtain ⟨hframe, hkept⟩ := firstAll_frame (linePositions line (readings closed line)) (s.keys.nextSlot t)
    refine ⟨_, hkept.trans hlength, fun p _ => hout p, fun _ => ⟨settled_congr ?_, fun p hp => hin p hp ?_⟩, nofun⟩
    · rw [scanReading_first (s := atMoment due s) closed hpass]
      exact congrArg (fun keys => { s with now := t, keys := keys }) (scanned_of_frame hframe)
    · have : p < 72 := by obtain ⟨-, hlt⟩ := hp; omega
      exact this.trans_eq hlength.symm
  | false =>
    obtain ⟨hout, hin⟩ := debounceAll_line closed line (s.keys.nextSlot t)
    obtain ⟨hframe, hkept⟩ := debounceAll_frame (linePositions line (readings closed line)) (s.keys.nextSlot t)
    refine ⟨_, hkept.trans hlength, fun p _ => hout p, nofun, fun _ =>
      ⟨s.keys.edges .up (linePositions line (readings closed line)), s.keys.edges .down (linePositions line (readings closed line)),
        settled_congr ?_, edges_ascending _ _ _ _, edges_ascending _ _ _ _, fun p => ?_, fun p r hp hr => ?_⟩⟩
    · rw [scanReading_later (s := atMoment due s) closed hpass]
      exact congrArg (handleEdges _ _) (congrArg (fun keys => { s with now := t, keys := keys }) (scanned_of_frame hframe))
    · rintro (h | h) <;> exact line_of_mem_edges h
    · obtain ⟨hup, hdown⟩ := debounce_edge_iff r s.keys.debounce (down p)
      have hrecord := hin p r hp hr
      refine ⟨(mem_edges_line .up closed hp hr).trans hup, (mem_edges_line .down closed hp hr).trans hdown, fun h => ?_,
        fun ⟨h, hlimit⟩ => ?_, fun h hbelow => ?_⟩
      · exact hrecord.trans (congrArg (some ·.1) (debounce_agrees s.keys.debounce h))
      · exact hrecord.trans (congrArg (some ·.1) (debounce_turns h hlimit))
      · exact hrecord.trans (congrArg (some ·.1) (debounce_counts h hbelow))

end Sys2Proof.Steps
end

section
/-!
O51: the key-ups and the key-downs of one reading: refusals, ghosts, modifiers, layers, codes and actions (R140 to R146, R149,
R150).
-/

namespace Sys2Proof.Steps

open Sys2Proof.Machine Sys2Proof.Safety Sys2Proof.Laws

variable {s : State} {k : Keys} {p : Nat} {r : KeyRecord} {e : KeyEntry} {code : Byte}

theorem mapRecord_eq (h : k.records[p]? = some r) (f : KeyRecord → KeyRecord) :
    k.mapRecord p f = { k with records := k.records.set p (f r) } := by
  rw [Keys.mapRecord, List.modify_eq_set_getElem?, h]
  rfl

/-! ### Key-ups (R143, R149) -/

/-- R149: the key-up of this record's position stops repeat. -/
def StopsRepeat (k : Keys) (p : Nat) (r : KeyRecord) : Prop :=
  r.refused = false ∧ r.role = .nonModifier ∧ k.repeatKey = some p

theorem keyUp_eq (h : k.records[p]? = some r) : k.keyUp p =
    if !r.refused && decide (r.role = .nonModifier) && decide (k.repeatKey = some p) then
      { k with records := k.records.set p { r with refused := false, role := .none }
               repeatKey := none, repeatCode := none, repeatTimer := none }
    else { k with records := k.records.set p { r with refused := false, role := .none } } := by
  rw [Keys.keyUp, record_of_getElem? h, mapRecord_eq h]
  rfl

theorem keyUp_stops (h : k.records[p]? = some r) (hstop : StopsRepeat k p r) : k.keyUp p = { k with
    records := k.records.set p { r with refused := false, role := .none }
    repeatKey := none, repeatCode := none, repeatTimer := none } := by
  obtain ⟨hrefused, hrole, hkey⟩ := hstop
  rw [keyUp_eq h, if_pos (by simp [hrefused, hrole, hkey])]

theorem keyUp_goesOn (h : k.records[p]? = some r) (hstop : ¬ StopsRepeat k p r) :
    k.keyUp p = { k with records := k.records.set p { r with refused := false, role := .none } } := by
  rw [keyUp_eq h, if_neg]
  simpa [StopsRepeat, and_assoc] using hstop

theorem keyUp_records (h : k.records[p]? = some r) :
    (k.keyUp p).records = k.records.set p { r with refused := false, role := .none } := by
  by_cases hstop : StopsRepeat k p r
  · rw [keyUp_stops h hstop]
  · rw [keyUp_goesOn h hstop]

/-! ### Ghosts (R141) -/

theorem heldDown_iff (k : Keys) (q : Nat) :
    k.heldDown q = true ↔ ∃ r, k.records[q]? = some r ∧ (r.down = true ∨ r.latest = true) := by
  rw [Keys.heldDown, Bool.or_eq_true]
  cases hq : k.records[q]? with
  | none => simp [Keys.record, List.getD, hq, KeyRecord.reset]
  | some r => simp [record_of_getElem? hq]

theorem isGhost_iff (k : Keys) {d c : Nat} (hc : c < 9) : k.isGhost (9 * d + c) = true ↔
    ∃ d' c', d' < 8 ∧ c' < 9 ∧ d' ≠ d ∧ c' ≠ c ∧ ∀ q ∈ [9 * d + c', 9 * d' + c, 9 * d' + c'],
      ∃ r, k.records[q]? = some r ∧ (r.down = true ∨ r.latest = true) := by
  have hdrive : (9 * d + c) / 9 = d := by omega
  have hsense : (9 * d + c) % 9 = c := by omega
  simp only [Keys.isGhost, hdrive, hsense, List.any_eq_true, List.mem_range, Bool.and_eq_true, decide_eq_true_eq, heldDown_iff,
    Nat.mul_comm _ 9, List.forall_mem_cons, List.not_mem_nil, false_imp_iff, implies_true, and_true, and_assoc, exists_and_left]

/-- R141, R193: the ghosts of a reading are counted, and nothing but their records changes besides. -/
theorem refuseGhosts_frame (ghosts : List Nat) (k : Keys) :
    let k' := ghosts.foldl Keys.refuseGhost k
    k' = { k with records := k'.records, ghosts := if ghosts = [] then k.ghosts else min (k.ghosts + ghosts.length) 65535 } := by
  induction ghosts generalizing k with
  | nil => rfl
  | cons p ghosts ih =>
    have hcount : (if ghosts = [] then countUp k.ghosts else min (countUp k.ghosts + ghosts.length) 65535)
        = min (k.ghosts + (ghosts.length + 1)) 65535 := by
      cases ghosts with
      | nil => rfl
      | cons q ghosts =>
        simp only [if_neg (List.cons_ne_nil q ghosts), countUp, Config.counterMax]
        omega
    rw [if_neg (List.cons_ne_nil p ghosts), List.length_cons, ← hcount]
    exact ih (k.refuseGhost p)

theorem refuseGhosts_records (ghosts : List Nat) (k : Keys) (q : Nat) :
    (ghosts.foldl Keys.refuseGhost k).records[q]?
      = k.records[q]?.map fun r => if q ∈ ghosts then { r with refused := true } else r := by
  induction ghosts generalizing k with
  | nil => simp
  | cons p ghosts ih =>
    have hfirst : (k.refuseGhost p).records = k.records.modify p fun r => { r with refused := true } := rfl
    rw [List.foldl_cons, ih, hfirst, List.getElem?_modify]
    by_cases hq : p = q
    · subst hq
      cases k.records[p]? <;> simp
    · simp [hq, Ne.symm hq]

theorem refuseGhosts_length (ghosts : List Nat) (k : Keys) :
    (ghosts.foldl Keys.refuseGhost k).records.length = k.records.length :=
  foldl_keeps (P := fun k' => k'.records.length = k.records.length) (fun _ _ h => (List.length_modify _ _ _).trans h) ghosts k rfl

/-- R140: the key-ups, then the ghosts, then the other key-downs. -/
theorem handleEdges_eq (ups downs : List Nat) (s : State) :
    let k := ups.foldl Keys.keyUp s.keys
    handleEdges ups downs s = (downs.filter fun p => !k.isGhost p).foldl (fun s' p => keyDown p s')
      { s with keys := (downs.filter k.isGhost).foldl Keys.refuseGhost k } := by
  intro k
  have hrest : downs.filter (fun p => !(downs.filter k.isGhost).contains p) = downs.filter fun p => !k.isGhost p :=
    List.filter_congr fun p hp => by simp [List.contains_eq_mem, List.mem_filter, hp]
  rw [← hrest]
  rfl

/-! ### A key-down's judgement (R142, R144, R145) -/

theorem holds_iff (role : KeyRole) (k : Keys) : k.holds role = true ↔ ∃ r ∈ k.records, r.down = true ∧ r.role = role := by
  simp [Keys.holds]

/-- R145: the layer that the modifiers held and the lock choose, FN before CTRL before SHIFT before the lock. -/
def ChoosesLayer (k : Keys) (p : Nat) (layer : Layer) : Prop :=
  (k.holds .fn = true ∧ layer = .fn) ∨ (¬ k.holds .fn = true ∧ k.holds .ctrl = true ∧ layer = .ctrl)
  ∨ (¬ k.holds .fn = true ∧ ¬ k.holds .ctrl = true ∧ k.holds .shift = true ∧ layer = .shift)
  ∨ (¬ k.holds .fn = true ∧ ¬ k.holds .ctrl = true ∧ ¬ k.holds .shift = true
      ∧ k.lock = true ∧ (k.keymap.entry .plain p).lockable = true ∧ layer = .shift)
  ∨ (¬ k.holds .fn = true ∧ ¬ k.holds .ctrl = true ∧ ¬ k.holds .shift = true
      ∧ ¬ (k.lock = true ∧ (k.keymap.entry .plain p).lockable = true) ∧ layer = .plain)

theorem layerFor_of_choosesLayer {layer : Layer} (h : ChoosesLayer k p layer) : k.layerFor p = layer := by
  unfold Keys.layerFor
  rcases h with ⟨hfn, rfl⟩ | ⟨hfn, hctrl, rfl⟩ | ⟨hfn, hctrl, hshift, rfl⟩ | ⟨hfn, hctrl, hshift, hlock, hlockable, rfl⟩
    | ⟨hfn, hctrl, hshift, hplain, rfl⟩
  · rw [if_pos hfn]
  · rw [if_neg hfn, if_pos hctrl]
  · rw [if_neg hfn, if_neg hctrl, if_pos hshift]
  · rw [if_neg hfn, if_neg hctrl, if_neg hshift, if_pos (Bool.and_eq_true_iff.2 ⟨hlock, hlockable⟩)]
  · rw [if_neg hfn, if_neg hctrl, if_neg hshift, if_neg (mt Bool.and_eq_true_iff.1 hplain)]

/-- R149: the scanner once a key-down of the record `r` at `p` is accepted at the moment `t`, with the code to repeat. -/
def accepted (p : Nat) (r : KeyRecord) (code : Option Byte) (t : Micros) (k : Keys) : Keys := { k with
  records := k.records.set p { r with role := .nonModifier }
  repeatKey := some p, repeatCode := code, repeatTimer := code.map fun _ => t + 1000 * k.repeatDelay }

/-- R149: the code that an entry gives to repeat. -/
def repeatOf (e : KeyEntry) : Option Byte :=
  match e.kind with
  | .char c => if e.repeats then some c else none
  | _ => none

theorem newRepeat_eq (p : Nat) (e : KeyEntry) (t : Micros) (k : Keys) : k.newRepeat p e t = { k with
    repeatKey := some p, repeatCode := repeatOf e, repeatTimer := (repeatOf e).map fun _ => t + 1000 * k.repeatDelay } := by
  obtain ⟨kind, repeats, lockable⟩ := e
  cases kind with
  | char c => cases repeats <;> rfl
  | none => rfl
  | modifier m => rfl
  | action a => rfl

theorem keyDown_modifier {m : Modifier} (h : s.keys.records[p]? = some r) (hm : (s.keys.keymap.entry .plain p).kind = .modifier m) :
    keyDown p s = { s with keys := { s.keys with
      records := s.keys.records.set p { r with role := m.role }, lock := if m = .lock then !s.keys.lock else s.keys.lock } } := by
  simp only [keyDown, hm, Keys.modifierDown, mapRecord_eq h]

theorem keyDown_plain (p : Nat) (hm : ∀ m, (s.keys.keymap.entry .plain p).kind ≠ .modifier m) : keyDown p s =
    if s.keys.rolloverLimit ≤ s.keys.nonModifiersDown then { s with keys := s.keys.refuseRollover p }
    else actEntry (s.keys.keymap.entry (s.keys.layerFor p) p) { s with
      keys := (s.keys.mapRecord p fun r => { r with role := .nonModifier }).newRepeat p
        (s.keys.keymap.entry (s.keys.layerFor p) p) s.now } := by
  unfold keyDown
  split
  · next m h => exact absurd h (hm m)
  · rfl

theorem keyDown_refused (h : s.keys.records[p]? = some r) (hm : ∀ m, (s.keys.keymap.entry .plain p).kind ≠ .modifier m)
    (hfull : s.keys.rolloverLimit ≤ s.keys.nonModifiersDown) :
    keyDown p s = { s with keys := { s.keys with records := s.keys.records.set p { r with refused := true } } } := by
  rw [keyDown_plain p hm, if_pos hfull, Keys.refuseRollover, mapRecord_eq h]

theorem keyDown_accepted {layer : Layer} (h : s.keys.records[p]? = some r)
    (hm : ∀ m, (s.keys.keymap.entry .plain p).kind ≠ .modifier m) (hroom : s.keys.nonModifiersDown < s.keys.rolloverLimit)
    (hlayer : ChoosesLayer s.keys p layer) :
    keyDown p s = actEntry (s.keys.keymap.entry layer p) { s with
      keys := accepted p r (repeatOf (s.keys.keymap.entry layer p)) s.now s.keys } := by
  rw [keyDown_plain p hm, if_neg (Nat.not_le.2 hroom), layerFor_of_choosesLayer hlayer, mapRecord_eq h, newRepeat_eq]
  rfl

/-! ### What an accepted entry does (R145, R146, R150) -/

theorem repeatOf_char (h : e.kind = .char code) : repeatOf e = if e.repeats then some code else none := by
  simp only [repeatOf, h]

theorem offerKey_joins (c : KeyChar) (h : s.keys.queue.length < 16) :
    offerKey c s = { s with keys := { s.keys with queue := s.keys.queue ++ [c] } } := if_pos h

/-- R151: the end time of a click asked for at the moment `t`: 40 ms on, or the present end time if that is later. -/
def clickEnd (t : Micros) : Option Beep → Micros
  | none => t + 40000
  | some b => max b.due (t + 40000)

theorem click_eq (t : Micros) (k : Keys) : k.click t = { k with beeper := beepFrom k.beeper t (clickEnd t k.beeper) } := by
  rw [Keys.click, beepFrom_eq]
  cases k.beeper with
  | none => simp [clickEnd, Config.clickTime]
  | some b => rfl

theorem offerKey_lost (c : KeyChar) (h : 16 ≤ s.keys.queue.length) : offerKey c s = { s with
    link := s.link.setLatch .keyLost
    keys := { s.keys with
      keysLost := min (s.keys.keysLost + 1) 65535
      beeper := beepFrom s.keys.beeper s.now (clickEnd s.now s.keys.beeper) } } := by
  rw [offerKey, if_neg (Nat.not_lt.2 h), click_eq]
  rfl

theorem actEntry_char (h : e.kind = .char code) (s : State) : actEntry e s = offerKey { code := code, repeated := false } s := by
  simp only [actEntry, h]

theorem actEntry_action {a : KeyAction} (h : e.kind = .action a) (s : State) : actEntry e s = keyAction a s := by
  simp only [actEntry, h]

theorem actEntry_idle (h : e.kind = .none ∨ ∃ m, e.kind = .modifier m) (s : State) : actEntry e s = s := by
  rcases h with h | ⟨m, h⟩ <;> simp only [actEntry, h]

theorem repeatOf_idle (h : ∀ c, e.kind ≠ .char c) : repeatOf e = none := by
  unfold repeatOf
  split
  · next c hc => exact absurd hc (h c)
  · rfl

/-- R128, R146: a BREAK key acts in an open call. -/
theorem keyAction_sendBreak (s : State) : keyAction .sendBreak s = { s with
    signal := if s.conn.state = .online ∨ s.conn.state = .fade then
        { s.signal with breakTimer := some (s.now + 250000), markTimer := none }
      else s.signal } := by
  show (if breakAllowed s.conn then startBreak s else s) = _
  by_cases hopen : s.conn.state = .online ∨ s.conn.state = .fade
  · rw [if_pos hopen, if_pos ((breakAllowed_iff s.conn).2 hopen)]
    rfl
  · rw [if_neg hopen, if_neg (mt (breakAllowed_iff s.conn).1 hopen)]

/-- Settles O51: the key-ups, the ghosts, and then each other key-down by its judgement and its entry. -/
theorem keyEdgesAct : Obligations.KeyEdgesAct := by
  refine ⟨fun s ups downs => ⟨fun p r hr => ⟨keyUp_records hr, fun h1 h2 h3 => ?_, fun hgoes => ?_⟩,
    fun d c _ hc => isGhost_iff s.keys hc, ?_⟩, ?_⟩
  · rw [keyUp_records hr]
    exact keyUp_stops hr ⟨h1, h2, h3⟩
  · rw [keyUp_records hr]
    exact keyUp_goesOn hr hgoes
  · intro k ghosts
    refine ⟨ghosts.foldl Keys.refuseGhost k, handleEdges_eq ups downs s, refuseGhosts_frame ghosts k,
      refuseGhosts_length ghosts k, fun p r hr => ?_⟩
    rw [refuseGhosts_records, hr]
    rfl
  · intro s p r hr held plain others limit
    refine ⟨fun m hm => keyDown_modifier hr hm, fun hm hfull => keyDown_refused hr hm hfull, fun hm hroom layer hlayer => ?_⟩
    intro e k
    have hchosen : ChoosesLayer s.keys p layer := by
      simp only [ChoosesLayer, holds_iff]
      exact hlayer
    have hdown : keyDown p s = actEntry e { s with keys := accepted p r (repeatOf e) s.now s.keys } :=
      keyDown_accepted hr hm hroom hchosen
    have hnoCode (h : ∀ c, e.kind ≠ .char c) : keyDown p s = actEntry e { s with keys := k none } := by
      rw [hdown, repeatOf_idle h]
      rfl
    refine ⟨fun c hc => ?_, fun hidle => ?_, fun hbreak => ?_, fun hfeed => ?_, fun hpause => ?_⟩
    · rw [repeatOf_char hc, actEntry_char hc] at hdown
      exact ⟨fun hplace => hdown.trans (offerKey_joins _ hplace), fun hfull => hdown.trans (offerKey_lost _ hfull)⟩
    · rw [hnoCode (by rcases hidle with h | ⟨m, h⟩ <;> simp [h]), actEntry_idle hidle]
    · rw [hnoCode (by simp [hbreak]), actEntry_action hbreak, keyAction_sendBreak]
    · rw [hnoCode (by simp [hfeed]), actEntry_action hfeed]
      rfl
    · rw [hnoCode (by simp [hpause]), actEntry_action hpause]
      rfl

end Sys2Proof.Steps
end

section
/-!
O48: SET KEYS, LOAD KEYMAP, the repeat timer and the beeper (R147, R149, R151, R152).
-/

namespace Sys2Proof.Steps

open Sys2Proof.Machine Sys2Proof.Safety Sys2Proof.Laws

variable {s : State} {dt : Micros}

/-! ### SET KEYS (R152) -/

theorem readKeys_illegal {mode : Byte} (count d0 d1 rate : Byte) (h : 1 < mode.toNat) :
    readKeys [count, mode, d0, d1, rate] = .error .range := by
  simp only [readKeys, rolloverOf, switchOf_above h]

theorem readKeys_legal {mode : Byte} (count d0 d1 rate : Byte) (h : mode.toNat ≤ 1) :
    readKeys [count, mode, d0, d1, rate] = .ok (
      { debounce := clampNat 2 8 count.toNat, rolloverSix := decide (mode = 0x01)
        repeatDelay := clampNat 250 1000 (wordOf d0 d1), repeatRate := clampNat 5 20 rate.toNat },
      clampNat 2 8 count.toNat != count.toNat || clampNat 250 1000 (wordOf d0 d1) != wordOf d0 d1
        || clampNat 5 20 rate.toNat != rate.toNat) := by
  simp only [readKeys, rolloverOf, switchOf_le_one h]

theorem keysClamped_iff (count delay rate : Nat) :
    (clampNat 2 8 count != count || clampNat 250 1000 delay != delay || clampNat 5 20 rate != rate) = true
      ↔ count < 2 ∨ 8 < count ∨ delay < 250 ∨ 1000 < delay ∨ rate < 5 ∨ 20 < rate := by
  simp only [Bool.or_eq_true, bne_iff_ne, clampNat_moves (show 2 ≤ 8 by decide), clampNat_moves (show 250 ≤ 1000 by decide),
    clampNat_moves (show 5 ≤ 20 by decide), or_assoc]

/-! ### The entries that LOAD KEYMAP's bytes name (R147, R188) -/

theorem named_of_four {α : Type} (w x y z : α) (b : Byte) :
    (if b = 0x00 then some w else if b = 0x01 then some x else if b = 0x02 then some y else if b = 0x03 then some z else none)
      = [w, x, y, z][b.toNat]? := by
  split_ifs with h0 h1 h2 h3
  · subst h0; rfl
  · subst h1; rfl
  · subst h2; rfl
  · subst h3; rfl
  · have : [w, x, y, z].length ≤ b.toNat := by simp only [List.length_cons, List.length_nil]; bv_omega
    exact (List.getElem?_eq_none this).symm

theorem layerOf_eq (b : Byte) : layerOf b = [Layer.plain, .shift, .ctrl, .fn][b.toNat]? := named_of_four _ _ _ _ b

theorem modifierOf_eq (b : Byte) : modifierOf b = [Modifier.shift, .ctrl, .fn, .lock][b.toNat]? := named_of_four _ _ _ _ b

theorem actionOf_eq (b : Byte) : actionOf b = [KeyAction.sendBreak, .feed, .pause][b.toNat]? := by
  unfold actionOf
  split_ifs with h0 h1 h2
  · subst h0; rfl
  · subst h1; rfl
  · subst h2; rfl
  · have : [KeyAction.sendBreak, .feed, .pause].length ≤ b.toNat := by simp only [List.length_cons, List.length_nil]; bv_omega
    exact (List.getElem?_eq_none this).symm

theorem getElem?_eq_ite_getD {α : Type} (l : List α) (n : Nat) (x : α) :
    l[n]? = if n < l.length then some (l.getD n x) else none := by
  split_ifs with h
  · rw [List.getElem?_eq_getElem h, List.getD_eq_getElem l x h]
  · exact List.getElem?_eq_none (Nat.not_lt.1 h)

/-- R147: the kind byte and the value byte of an entry name a kind. -/
abbrev NamesKind (kind value : Byte) : Prop :=
  (kind = 0x00 ∧ value = 0x00) ∨ kind = 0x01 ∨ (kind = 0x02 ∧ value.toNat < 4) ∨ (kind = 0x03 ∧ value.toNat < 3)

/-- R147: the kind that they name. -/
def kindMeant (kind value : Byte) : KeyKind :=
  if kind = 0x00 then .none
  else if kind = 0x01 then .char value
  else if kind = 0x02 then .modifier ([Modifier.shift, .ctrl, .fn, .lock].getD value.toNat .shift)
  else .action ([KeyAction.sendBreak, .feed, .pause].getD value.toNat .sendBreak)

theorem keyKindOf_eq (kind value : Byte) :
    keyKindOf kind value = if NamesKind kind value then some (kindMeant kind value) else none := by
  rw [keyKindOf, modifierOf_eq, actionOf_eq, getElem?_eq_ite_getD _ _ .shift, getElem?_eq_ite_getD _ _ .sendBreak]
  have hkind : kind = 0x00 ∨ kind = 0x01 ∨ kind = 0x02 ∨ kind = 0x03 ∨ 3 < kind.toNat := by bv_omega
  rcases hkind with rfl | rfl | rfl | rfl | habove
  · simp [NamesKind, kindMeant]
  · simp [NamesKind, kindMeant]
  · by_cases hvalue : value.toNat < 4 <;> simp [NamesKind, kindMeant, hvalue]
  · by_cases hvalue : value.toNat < 3 <;> simp [NamesKind, kindMeant, hvalue]
  · have hne {b : Byte} (hb : b.toNat ≤ 3) : kind ≠ b := fun h => by rw [h] at habove; omega
    have h0 : kind ≠ 0x00 := hne (by decide)
    have h1 : kind ≠ 0x01 := hne (by decide)
    have h2 : kind ≠ 0x02 := hne (by decide)
    have h3 : kind ≠ 0x03 := hne (by decide)
    have hnone : ¬ NamesKind kind value := by
      rintro (⟨h, -⟩ | h | ⟨h, -⟩ | ⟨h, -⟩)
      exacts [h0 h, h1 h, h2 h, h3 h]
    rw [if_neg h0, if_neg h1, if_neg h2, if_neg h3, if_neg hnone]

/-- R147: the three bytes of an entry name one: no flag but REPEAT and LOCKABLE is set, and they name a kind. -/
abbrev NamesEntry (e : Byte × Byte × Byte) : Prop := e.2.2.toNat < 4 ∧ NamesKind e.1 e.2.1

/-- R147: the entry that they name. -/
def entryMeant (e : Byte × Byte × Byte) : KeyEntry where
  kind := kindMeant e.1 e.2.1
  repeats := e.2.2.getLsbD 0
  lockable := e.2.2.getLsbD 1

/-- R147: no flag beyond bits 0 and 1 is set. -/
theorem flagsNamed_iff (flags : Byte) : flags &&& 0xFC = 0 ↔ flags.toNat < 4 := by
  have hmask : flags &&& (0xFC : Byte) = (flags >>> 2) <<< 2 := by
    ext i hi
    interval_cases i <;> simp
  rw [hmask]
  bv_omega

theorem keyEntryOf_eq (e : Byte × Byte × Byte) :
    keyEntryOf e.1 e.2.1 e.2.2 = if NamesEntry e then some (entryMeant e) else none := by
  simp only [keyEntryOf, flagsNamed_iff, keyKindOf_eq, NamesEntry, ite_and]
  split_ifs <;> rfl

/-- R147: the bytes of the entries of a LOAD KEYMAP. -/
abbrev entryBytes (es : List (Byte × Byte × Byte)) : List Byte := es.flatMap fun e => [e.1, e.2.1, e.2.2]

theorem entryBytes_length (es : List (Byte × Byte × Byte)) : (entryBytes es).length = 3 * es.length := by
  induction es with
  | nil => rfl
  | cons e es ih =>
    rw [entryBytes, List.flatMap_cons, List.length_append, ih, List.length_cons]
    exact Nat.add_comm 3 _

theorem readEntries_eq (es : List (Byte × Byte × Byte)) :
    readEntries (entryBytes es) = if ∀ e ∈ es, NamesEntry e then some (es.map entryMeant) else none := by
  induction es with
  | nil =>
    rw [if_pos (List.forall_mem_nil _)]
    rfl
  | cons e es ih =>
    have hbytes : entryBytes (e :: es) = e.1 :: e.2.1 :: e.2.2 :: entryBytes es := List.flatMap_cons
    rw [hbytes, readEntries, keyEntryOf_eq, ih]
    by_cases he : NamesEntry e
    · by_cases hes : ∀ e ∈ es, NamesEntry e
      · rw [if_pos he, if_pos hes, if_pos (List.forall_mem_cons.2 ⟨he, hes⟩)]
        rfl
      · rw [if_pos he, if_neg hes, if_neg fun h => hes (List.forall_mem_cons.1 h).2]
    · rw [if_neg he, if_neg fun h => he (List.forall_mem_cons.1 h).1]

/-! ### LOAD KEYMAP (R147) -/

/-- R147: a LOAD KEYMAP's layer, positions and entries all name something. -/
def KeymapLegal (layer first : Byte) (es : List (Byte × Byte × Byte)) : Prop :=
  layer.toNat < 4 ∧ first.toNat + es.length ≤ 72 ∧ ∀ e ∈ es, NamesEntry e

variable {layer first : Byte} {es : List (Byte × Byte × Byte)}

theorem entryBytes_fit (h1 : 1 ≤ es.length) (h12 : es.length ≤ 12) :
    (entryBytes es).length % 3 = 0 ∧ 1 ≤ (entryBytes es).length / 3 ∧ (entryBytes es).length / 3 ≤ 12 := by
  rw [entryBytes_length]
  omega

theorem readKeymap_legal {l : Layer} (h1 : 1 ≤ es.length) (h12 : es.length ≤ 12) (h : KeymapLegal layer first es)
    (hl : layerOf layer = some l) :
    readKeymap (layer :: first :: entryBytes es) = .ok (l, first.toNat, es.map entryMeant) := by
  obtain ⟨-, hfits, hnamed⟩ := h
  simp only [readKeymap, if_pos (entryBytes_fit h1 h12), hl, readEntries_eq, if_pos hnamed, List.length_map, if_pos hfits]

theorem readKeymap_illegal (h1 : 1 ≤ es.length) (h12 : es.length ≤ 12) (h : ¬ KeymapLegal layer first es) :
    readKeymap (layer :: first :: entryBytes es) = .error .range := by
  simp only [readKeymap, if_pos (entryBytes_fit h1 h12), layerOf_eq, readEntries_eq]
  split
  · next l entries hl hentries =>
    obtain ⟨hnamed, rfl⟩ : (∀ e ∈ es, NamesEntry e) ∧ es.map entryMeant = entries := by simpa using hentries
    have hlayer : layer.toNat < 4 := (List.getElem?_eq_some_iff.1 hl).1
    exact if_neg fun hfits => h ⟨hlayer, by rwa [List.length_map] at hfits, hnamed⟩
  · rfl

theorem layer_replace (m : Keymap) (l l' : Layer) (first : Nat) (new : List KeyEntry) :
    (m.replace l first new).layer l' = if l = l' then replaceFrom first new (m.layer l') else m.layer l' := by
  cases l <;> cases l' <;> rfl

theorem replaceFrom_getElem? {first : Nat} {new old : List KeyEntry} (h : first + new.length ≤ old.length) (q : Nat) :
    (replaceFrom first new old)[q]? = if first ≤ q ∧ q < first + new.length then new[q - first]? else old[q]? := by
  have htake : (old.take first).length = first := List.length_take_of_le (by omega)
  rw [replaceFrom, List.append_assoc]
  rcases Nat.lt_or_ge q first with hbefore | hfrom
  · rw [List.getElem?_append_left (htake.symm ▸ hbefore), List.getElem?_take_of_lt hbefore, if_neg (by omega)]
  · rw [List.getElem?_append_right (htake.symm ▸ hfrom), htake]
    rcases Nat.lt_or_ge q (first + new.length) with hwithin | hafter
    · rw [List.getElem?_append_left (by omega), if_pos ⟨hfrom, hwithin⟩]
    · rw [List.getElem?_append_right (by omega), List.getElem?_drop, if_neg (by omega)]
      exact congrArg (old[·]?) (by omega)

/-- R147: the entries replace those of the layer from the first position onward, and no other. -/
theorem replace_entries (m : Keymap) {l : Layer} (hl : [Layer.plain, .shift, .ctrl, .fn][layer.toNat]? = some l)
    (hfits : first.toNat + es.length ≤ 72) (hwhole : ∀ l, (m.layer l).length = 72) (l' : Layer) (q : Nat) :
    ((m.replace l first.toNat (es.map entryMeant)).layer l')[q]? =
      if [Layer.plain, .shift, .ctrl, .fn][layer.toNat]? = some l' ∧ first.toNat ≤ q ∧ q < first.toNat + es.length
      then (es[q - first.toNat]?).map entryMeant else (m.layer l')[q]? := by
  rw [layer_replace, hl]
  by_cases heq : l = l'
  · subst heq
    rw [if_pos rfl, replaceFrom_getElem? (by rwa [List.length_map, hwhole]), List.length_map, List.getElem?_map]
    simp only [true_and]
  · rw [if_neg heq, if_neg fun h => heq (Option.some.inj h.1)]

/-! ### The repeat timer and the beeper (R149, R151) -/

/-- R149: a repeat is offered while fewer than 4 characters wait, and the timer starts again either way. -/
theorem endRepeat_eq {c : Byte} (h : s.keys.repeatCode = some c) : endRepeat s = { s with keys := { s.keys with
    repeatTimer := some (s.now + 1000 * (1000 / s.keys.repeatRate))
    queue := if s.keys.queue.length < 4 then s.keys.queue ++ [{ code := c, repeated := true }] else s.keys.queue } } := by
  simp only [endRepeat, h]
  split_ifs with hfew
  · exact offerKey_joins _ (Nat.lt_trans hfew (by decide))
  · rfl

theorem halfCycle_eq {t since n : Nat} (hfrom : since + 250 * n ≤ t) (hbefore : t < since + 250 * (n + 1)) :
    (t - since) / 250 = n := by omega

/-- R151: the wave is away from the steady level in its half-cycles of even number. -/
theorem beepAway_eq {b : Beep} {n : Nat} (hb : s.keys.beeper = some b) (hfrom : b.since + 250 * n ≤ s.now)
    (hbefore : s.now < b.since + 250 * (n + 1)) : beepAway s = decide (n % 2 = 0) := by
  simp only [beepAway, hb, Config.beepHalf, halfCycle_eq hfrom hbefore]

/-- Settles O48: each payload by what it reads as, the timers by their ends, and the wave by its half-cycles. -/
theorem keyCommandsAndTimers : Obligations.KeyCommandsAndTimers := by
  refine ⟨fun s dt => ⟨fun count mode d0 d1 rate h => ?_, fun layer first es h1 h12 h => ?_⟩,
    fun s due hreset => ⟨fun c hdue hcode => ?_, fun b hb => ?_⟩, fun s o ho => ?_,
    fun s => ⟨fun hsilent => ?_, fun b n hb hfrom hbefore => beepAway_eq hb hfrom hbefore⟩⟩
  · intro p delay
    refine ⟨fun hmode => ?_, fun hmode => ?_⟩
    · rw [setKeys_taken h, actSetKeys, readKeys_illegal _ _ _ _ hmode]
      rfl
    · rw [setKeys_taken h, actSetKeys, readKeys_legal _ _ _ _ hmode]
      refine settled_congr ?_
      simp only [answer_ok]
      rw [doneOr_eq 0x18 (keysClamped_iff _ _ _)]
      rfl
  · intro p good legal means
    refine ⟨fun hill => ?_, fun hlegal hwhole => ?_⟩
    · rw [loadKeymap_taken h, actLoadKeymap, readKeymap_illegal h1 h12 hill]
      rfl
    · have hl : [Layer.plain, .shift, .ctrl, .fn][layer.toNat]? = some _ := List.getElem?_eq_getElem hlegal.1
      refine ⟨_, ?_, fun l q _ => replace_entries s.keys.keymap hl hlegal.2.1 hwhole l q⟩
      rw [loadKeymap_taken h, actLoadKeymap, readKeymap_legal h1 h12 hlegal ((layerOf_eq layer).trans hl)]
      rfl
  · rw [repeatTimerExpiry_due hreset hdue, endRepeat_eq (s := atMoment due s) hcode]
    rfl
  · rw [beeperEndTime_due hreset (congrArg (Option.map Beep.due) hb)]
    rfl
  · obtain ⟨-, -, -, -, -, hbel, -⟩ := charactersAreCarriedOut s o ho
    rw [hbel]
  · simp only [beepAway, hsilent]

end Sys2Proof.Steps
end

section
/-!
O47: a judgement of local hold (R170, R171, R173).
-/

namespace Sys2Proof.Steps

open Sys2Proof.Machine Sys2Proof.Safety Sys2Proof.Laws

variable {s : State} {r : Router}

/-! ### The flow slot (R171) -/

/-- R171: going to HOLD SENT, a code in the slot can only be an unsent resume. -/
theorem sendHold_eq (h : FlowAgrees r) (hclear : r.holdSent = false) : r.sendHold = { r with
    holdSent := true, slot := if r.slot.isSome then none else some { kind := .hold, code := r.holdCode } } := by
  rcases hslot : r.slot with _ | ⟨kind, code⟩
  · simp only [Router.sendHold, hslot, Option.isSome_none, Bool.false_eq_true, if_false]
  · cases kind with
    | hold => exact absurd ((h _ hslot).1 rfl) (by simp [hclear])
    | resume => simp only [Router.sendHold, hslot, Option.isSome_some, if_true]

/-- R171: going to CLEAR, a code in the slot can only be an unsent hold. -/
theorem sendResume_eq (h : FlowAgrees r) (hsent : r.holdSent = true) : r.sendResume = { r with
    holdSent := false, slot := if r.slot.isSome then none else some { kind := .resume, code := r.resumeCode } } := by
  rcases hslot : r.slot with _ | ⟨kind, code⟩
  · simp only [Router.sendResume, hslot, Option.isSome_none, Bool.false_eq_true, if_false]
  · cases kind with
    | hold => simp only [Router.sendResume, hslot, Option.isSome_some, if_true]
    | resume => exact absurd ((h _ hslot).2 hsent) (by simp)

/-! ### The judgement (R170) -/

theorem holdJudged_iff (s : State) : holdJudged s = true ↔ s.router.flowOn = true ∧ OpenCall s := by
  simp only [holdJudged, Bool.and_eq_true, Bool.or_eq_true, decide_eq_true_eq]

theorem holdWanted_iff (s : State) : holdWanted s = true
    ↔ (if s.format.deep then 24 else 10) ≤ s.router.store.length ∨ s.router.pause = true := by
  rw [holdWanted, Bool.or_eq_true, decide_eq_true_iff]
  rfl

theorem holdUnwanted_iff (s : State) : holdUnwanted s = true
    ↔ s.router.store.length ≤ (if s.format.deep then 8 else 4) ∧ s.router.pause = false := by
  rw [holdUnwanted, Bool.and_eq_true, decide_eq_true_iff, Bool.not_eq_true']
  rfl

/-- R170: the judgement moves CLEAR to HOLD SENT. -/
theorem judgedToHold_iff (s : State) : (holdJudged s && holdWanted s && !s.router.holdSent) = true
    ↔ (s.router.flowOn = true ∧ OpenCall s)
      ∧ ((if s.format.deep then 24 else 10) ≤ s.router.store.length ∨ s.router.pause = true) ∧ s.router.holdSent = false := by
  rw [Bool.and_eq_true, Bool.and_eq_true, holdJudged_iff, holdWanted_iff, Bool.not_eq_true', and_assoc]

/-- R170: the judgement moves HOLD SENT to CLEAR. -/
theorem judgedToClear_iff (s : State) : (holdJudged s && holdUnwanted s && s.router.holdSent) = true
    ↔ (s.router.flowOn = true ∧ OpenCall s)
      ∧ (s.router.store.length ≤ (if s.format.deep then 8 else 4) ∧ s.router.pause = false) ∧ s.router.holdSent = true := by
  rw [Bool.and_eq_true, Bool.and_eq_true, holdJudged_iff, holdUnwanted_iff, and_assoc]

/-- Settles O47: the two moves exclude each other by the local hold state, and the slot agrees with that state. -/
theorem localHoldIsJudged : Obligations.LocalHoldIsJudged := by
  intro s hagrees judged fill wanted unwanted
  refine ⟨fun hj hw hclear => ?_, fun hj hu hsent => ?_, fun hnohold hnoresume => ?_, rfl⟩
  · rw [judgeHold_holds ((judgedToHold_iff s).2 ⟨hj, hw, hclear⟩), sendHold_eq hagrees hclear, pendLine_eq_told]
  · have hstays : ¬ (holdJudged s && holdWanted s && !s.router.holdSent) = true := by simp [hsent]
    rw [judgeHold_resumes hstays ((judgedToClear_iff s).2 ⟨hj, hu, hsent⟩), sendResume_eq hagrees hsent, pendLine_eq_told]
  · exact judgeHold_stands (mt (judgedToHold_iff s).1 hnohold) (mt (judgedToClear_iff s).1 hnoresume)

end Sys2Proof.Steps
end

section
/-!
O46: a received character is consumed as a flow code, stored, or dropped as an overrun (R159, R160, R163, R169).
-/

namespace Sys2Proof.Steps

open Sys2Proof.Machine Sys2Proof.Safety Sys2Proof.Laws

variable {s : State} {c : RxChar}

/-! ### Flow codes (R160, R169) -/

/-- R160: while flow is on, an unflagged hold or resume code is consumed. -/
theorem isFlowCode_iff (c : RxChar) (s : State) : isFlowCode c s = true
    ↔ (s.router.flowOn = true ∧ c.parityBad = false ∧ c.framingBad = false)
      ∧ (c.code = s.router.holdCode ∨ c.code = s.router.resumeCode) := by
  simp only [isFlowCode, Bool.and_eq_true, Bool.or_eq_true, Bool.not_eq_true', decide_eq_true_eq, and_assoc]

theorem arrive_consumed (h : isFlowCode c s = true) : arrive c s = consumeFlow c s := if_pos h

theorem arrive_unconsumed (h : ¬ isFlowCode c s = true) : arrive c s = storeChar c (countFlags c s) := if_neg h

/-! ### The store and the echo copy (R159, R160, R163) -/

/-- R163: the echo copy of a stored character, where `echo` says one is offered. -/
theorem echoed_eq (echo : Bool) (code : Byte) (r : Router) : (if echo = true then r.echo code else r) = { r with
    txQueue := if echo && decide (r.txQueue.length < 8) then r.txQueue ++ [code] else r.txQueue
    echoDrops := if echo && !decide (r.txQueue.length < 8) then min (r.echoDrops + 1) 65535 else r.echoDrops } := by
  cases echo with
  | false => rfl
  | true =>
    by_cases hroom : r.txQueue.length < 8
    · simp [Router.echo, Config.txCap, hroom]
    · simp [Router.echo, Config.txCap, hroom, countUp, Config.counterMax]

/-- R160: with a free place the character joins the store, and local hold is judged (R159). -/
theorem storeChar_joins (h : s.router.store.length < (if s.format.deep then 32 else 16)) :
    storeChar c s = judgeHold { s with router := { s.router with
      store := s.router.store ++ [c]
      txQueue := if decide (s.conn.loop = .remoteEcho) && decide (s.router.txQueue.length < 8)
        then s.router.txQueue ++ [deliveredCode s.format c] else s.router.txQueue
      echoDrops := if decide (s.conn.loop = .remoteEcho) && !decide (s.router.txQueue.length < 8)
        then min (s.router.echoDrops + 1) 65535 else s.router.echoDrops } } := by
  have hecho := echoed_eq (decide (s.conn.loop = .remoteEcho)) (deliveredCode s.format c)
    { s.router with store := s.router.store ++ [c] }
  simp only [decide_eq_true_eq] at hecho
  simp only [storeChar, storeDepth, if_pos h, hecho]

/-- R160: with the store full the character is dropped. -/
theorem storeChar_overruns (h : (if s.format.deep then 32 else 16) ≤ s.router.store.length) : storeChar c s
    = setLatch .rxOverrun { s with router := { s.router with overruns := countUp s.router.overruns } } :=
  if_neg (Nat.not_lt.2 h)

/-- Settles O46: a flow code by which of the two it is, and any other character by the room in the store. -/
theorem arrivalsAreJudged : Obligations.ArrivalsAreJudged := by
  intro s c due flow flagged copy echo room up counted link
  refine ⟨fun hflow hhold => ?_, fun hflow hnot hresume => ?_, fun hplain => ⟨fun hroom => ?_, fun hfull => ?_⟩,
    fun hreset htimer => ?_⟩
  · rw [arrive_consumed ((isFlowCode_iff c s).2 ⟨hflow, .inl hhold⟩), consumeFlow, if_pos hhold]
    rfl
  · rw [arrive_consumed ((isFlowCode_iff c s).2 ⟨hflow, .inr hresume⟩), consumeFlow, if_neg hnot]
    rfl
  · rw [arrive_unconsumed (mt (isFlowCode_iff c s).1 hplain)]
    exact storeChar_joins (s := countFlags c s) hroom
  · rw [arrive_unconsumed (mt (isFlowCode_iff c s).1 hplain)]
    exact storeChar_overruns (s := countFlags c s) hfull
  · rw [remoteHoldTimerExpiry_due hreset htimer]
    rfl

end Sys2Proof.Steps
end

section
/-!
O44: SET ROUTES, SET FLOW and CLEAR QUEUE (R156, R167, R168, R172).
-/

namespace Sys2Proof.Steps

open Sys2Proof.Machine Sys2Proof.Safety Sys2Proof.Laws

variable {s : State} {b flow hold resume limit : Byte}

/-! ### SET ROUTES (R156) -/

/-- R156: KEY may have every sink. -/
theorem keySinks_iff (b : Byte) : b &&& 0xF8 = 0 ↔ b.toNat < 8 := by
  have hmask : b &&& (0xF8 : Byte) = (b >>> 3) <<< 3 := by
    ext i hi
    interval_cases i <;> simp
  rw [hmask]
  bv_omega

/-- R156: RX may have PRINT and LINK. -/
theorem rxSinks_iff (b : Byte) : b &&& 0xF9 = 0 ↔ b.toNat ∈ [0, 2, 4, 6] := by
  by_cases hlow : b.toNat < 8
  · have hsmall : ∀ n < 8, (BitVec.ofNat 8 n &&& 0xF9 = 0 ↔ (BitVec.ofNat 8 n).toNat ∈ [0, 2, 4, 6]) := by decide
    have h := hsmall b.toNat hlow
    rwa [BitVec.ofNat_toNat, BitVec.setWidth_eq] at h
  · refine iff_of_false (fun h => hlow ((keySinks_iff b).1 ?_)) fun h => ?_
    · calc b &&& 0xF8 = (b &&& 0xF9) &&& 0xF8 := by rw [BitVec.and_assoc]; rfl
        _ = 0 := by rw [h]; rfl
    · simp only [List.mem_cons, List.not_mem_nil, or_false] at h
      omega

theorem readRoutes_eq (rx key stq : Byte) : readRoutes [rx, key, stq]
    = if rx.toNat ∈ [0, 2, 4, 6] ∧ key.toNat < 8 ∧ stq.toNat < 4 then .ok (sinkSetOf rx, sinkSetOf key, sinkSetOf stq)
      else .error .range := by
  simp only [readRoutes, rxSinks_iff, keySinks_iff, flagsNamed_iff]

/-! ### SET FLOW (R168, R172) -/

/-- R168: the switch names off or on, and the two codes differ. -/
def FlowLegal (flow hold resume : Byte) : Prop := flow.toNat ≤ 1 ∧ hold ≠ resume

theorem readFlow_illegal (h : ¬ FlowLegal flow hold resume) : readFlow [flow, hold, resume, limit] = .error .range := by
  unfold readFlow
  dsimp only
  split
  · next on hon => exact if_pos (not_not.1 fun hne => h ⟨switchOf_some hon, hne⟩)
  · rfl

/-- R168: the settings that a legal SET FLOW gives. -/
def flowGiven (flow hold resume limit : Byte) : FlowSettings where
  flowOn := decide (flow = 0x01)
  holdCode := hold
  resumeCode := resume
  holdTimeout := clampTimeout limit.toNat

theorem readFlow_legal (h : FlowLegal flow hold resume) : readFlow [flow, hold, resume, limit]
    = .ok (flowGiven flow hold resume limit, clampTimeout limit.toNat != limit.toNat) := by
  obtain ⟨hflow, hne⟩ := h
  simp only [readFlow, switchOf_le_one hflow, if_neg hne]
  rfl

/-- R168: a timeout is moved by its clamp. -/
theorem clampTimeout_moves (n : Nat) : (clampTimeout n != n) = true ↔ (0 < n ∧ n < 5) ∨ 120 < n := by
  rw [bne_iff_ne, clampTimeout]
  split
  · omega
  · rw [clampNat_moves (by decide)]
    omega

theorem setFlow_unswitched {f : FlowSettings} (h : f.flowOn = s.router.flowOn) : setFlow f s = setFlowCodes f s := if_pos h

theorem setFlow_on {f : FlowSettings} (h : f.flowOn = true) (hoff : s.router.flowOn = false) :
    setFlow f s = turnFlowOn (setFlowCodes f s) := by
  simp [setFlow, h, hoff]

theorem setFlow_off {f : FlowSettings} (h : f.flowOn = false) (hon : s.router.flowOn = true) :
    setFlow f s = turnFlowOff (setFlowCodes f s) := by
  simp [setFlow, h, hon]

/-- R172: the switch turned off ends HOLD SENT and remote held, and is told once for both. -/
theorem turnFlowOff_eq (h : SlotAgrees s) : turnFlowOff s = { s with
    link := if s.router.holdSent || s.router.remoteHeld then told s.link else s.link
    router := { s.router with
      flowOn := false, holdSent := false, remoteHeld := false, remoteTimer := none
      slot := if s.router.holdSent then
          (if s.router.slot.isSome then none else some { kind := .resume, code := s.router.resumeCode })
        else s.router.slot } } := by
  cases hsent : s.router.holdSent with
  | true =>
    cases hheld : s.router.remoteHeld <;>
      simp [turnFlowOff, hsent, sendResume_eq h hsent, hheld, pendLine_eq_told, told_told]
  | false => simp [turnFlowOff, hsent, pendLine_eq_told]

/-- R170: local hold is not judged by the replies that wait. -/
theorem judgeHold_reply (r : Reply) (s : State) : reply r (judgeHold s) = judgeHold (reply r s) := by
  by_cases hhold : (holdJudged s && holdWanted s && !s.router.holdSent) = true
  · rw [judgeHold_holds hhold, judgeHold_holds (s := reply r s) hhold]
    rfl
  · by_cases hresume : (holdJudged s && holdUnwanted s && s.router.holdSent) = true
    · rw [judgeHold_resumes hhold hresume, judgeHold_resumes (s := reply r s) hhold hresume]
      rfl
    · rw [judgeHold_stands hhold hresume, judgeHold_stands (s := reply r s) hhold hresume]

theorem turnFlowOff_reply (r : Reply) (s : State) : reply r (turnFlowOff s) = turnFlowOff (reply r s) := by
  cases hsent : s.router.holdSent <;> cases hheld : s.router.remoteHeld <;>
    simp [turnFlowOff, clearRemoteHeld, reply, Router.sendResume, LinkPort.pendLine, hsent, hheld]

/-- R168: what SET FLOW does does not depend on its own reply. -/
theorem setFlow_reply (r : Reply) (f : FlowSettings) (s : State) : reply r (setFlow f s) = setFlow f (reply r s) := by
  simp only [setFlow, turnFlowOn, apply_ite (reply r), judgeHold_reply, turnFlowOff_reply]
  rfl

/-- R168: a legal SET FLOW is answered and carried out. -/
theorem setFlow_row {dt : Micros} {t : State} (h : CanTake 0x1C [flow, hold, resume, limit] s)
    (hlegal : FlowLegal flow hold resume)
    (hset : setFlow (flowGiven flow hold resume limit)
      (answered dt (doneReply 0x1C ((0 < limit.toNat ∧ limit.toNat < 5) ∨ 120 < limit.toNat)) s) = t) :
    exec (.setFlow dt [flow, hold, resume, limit]) s = .next (settleRow t) := by
  rw [setFlow_taken h, actSetFlow, readFlow_legal hlegal, ← hset]
  refine settled_congr ?_
  simp only [answer_ok]
  rw [setFlow_reply, doneOr_eq 0x1C (clampTimeout_moves _)]
  rfl

/-! ### CLEAR QUEUE (R165, R167) -/

theorem selectorOf_above (h : 2 < b.toNat) : selectorOf b = none := by
  unfold selectorOf
  split_ifs with h0 h1 h2
  · subst h0; simp at h
  · subst h1; simp at h
  · subst h2; simp at h
  · rfl

/-- R165, R167: the emptied send text queue has 64 places free, so a wanted flag that was set clears. -/
theorem clearQueue_stq (s : State) : clearQueue .stq s = { s with
    router := { s.router with stq := [], stqWanted := false }
    link := { s.link with pendSpace := s.link.pendSpace || (s.router.stqWanted && s.link.mask.space) } } := by
  simp [clearQueue, checkStqRoom_eq]

/-- R83, R167: and the print text queue likewise. -/
theorem clearQueue_ptq (s : State) : clearQueue .ptq s = { s with
    fmt := { s.fmt with ptq := [], ptqWanted := false }
    link := { s.link with pendSpace := s.link.pendSpace || (s.fmt.ptqWanted && s.link.mask.space) } } := by
  simp [clearQueue, checkPtqRoom_eq]

theorem clearQueue_row {dt : Micros} {q : Selector} {t : State} (h : CanTake 0x1D [b] s) (hq : selectorOf b = some q)
    (hclear : clearQueue q (closeFrame (after dt s)) = t) :
    exec (.clearQueue dt [b]) s = .next (settleRow (reply (.done 0x1D) t)) := by
  rw [clearQueue_taken h, actClearQueue, ← hclear]
  simp only [readNamed, hq, answer_ok]

/-- Settles O44: each payload is read as it names, and each command's effect is its own. -/
theorem routerCommands : Obligations.RouterCommands := by
  refine fun s dt => ⟨fun rx key stq h => ?_, fun flow hold resume limit h => ?_, fun b h => ?_⟩
  · intro legal d named
    refine ⟨fun hill => ?_, fun hlegal => ?_⟩ <;> rw [setRoutes_taken h, actSetRoutes, readRoutes_eq]
    · rw [if_neg hill]
      rfl
    · rw [if_pos hlegal]
      rfl
  · intro legal n d set
    refine ⟨fun hill => ?_, fun hlegal hsame => ?_, fun hlegal hon hoff => ?_, fun hlegal hoff hon hagrees => ?_⟩
    · rw [setFlow_taken h, actSetFlow, readFlow_illegal hill]
      rfl
    · exact setFlow_row h hlegal (setFlow_unswitched hsame)
    · exact setFlow_row h hlegal (setFlow_on (decide_eq_true hon) hoff)
    · have hgiven : (flowGiven flow hold resume limit).flowOn = false := by subst hoff; rfl
      exact setFlow_row h hlegal ((setFlow_off (s := d) hgiven hon).trans (turnFlowOff_eq hagrees))
  · intro d space
    refine ⟨fun habove => ?_, fun hb => ?_, fun hb => ?_, fun hb => ?_⟩
    · rw [clearQueue_taken h, actClearQueue]
      simp only [readNamed, selectorOf_above habove]
      rfl
    · rw [clearQueue_row h (by subst hb; rfl) (clearQueue_stq _)]
      rfl
    · rw [clearQueue_row h (by subst hb; rfl) (clearQueue_ptq _)]
      rfl
    · rw [clearQueue_row h (by subst hb; rfl) rfl]
      rfl

end Sys2Proof.Steps
end

section
/-!
O45: when a source is ready, and its take (R155, R157, R158, R161, R163, R165, R166).
-/

namespace Sys2Proof.Steps

open Sys2Proof.Machine Sys2Proof.Safety Sys2Proof.Laws

variable {s : State} {src : Source}

/-! ### The sinks while LINE is absent (R157) -/

theorem sinksOf_key_absent (h : ¬ LineThere s) : sinksOf .key s
    = if s.router.keyRoute.line then { s.router.keyRoute with line := false, print := true } else s.router.keyRoute :=
  if_neg (mt (linePresent_iff s).1 h)

theorem sinksOf_stq_absent (h : ¬ LineThere s) : sinksOf .stq s
    = if s.router.stqRoute.line then { line := false, print := false, link := false } else s.router.stqRoute :=
  if_neg (mt (linePresent_iff s).1 h)

/-! ### A character at the head (R155) -/

theorem headCode_rx_isSome (s : State) : (headCode .rx s).isSome = true ↔ s.router.store ≠ [] := by
  rw [headCode, Option.isSome_map, List.isSome_head?]

theorem headCode_key_isSome (s : State) : (headCode .key s).isSome = true ↔ s.keys.queue ≠ [] := by
  rw [headCode, Option.isSome_map, List.isSome_head?]

theorem headCode_stq_isSome (s : State) : (headCode .stq s).isSome = true ↔ s.router.stq ≠ [] := by
  rw [headCode, List.isSome_head?]

/-! ### What each sink accepts (R155, R163) -/

/-- R155: PRINT accepts what the formatter would take, and from KEY while no key feed is pending. -/
theorem printAccepts_iff {c : Byte} (h : headCode src s = some c) : printAccepts src s = true
    ↔ s.fmt.isDraining = false
      ∧ (s.fmt.owner = ownerOf src ∨ (s.fmt.owner = .none ∧ grantee s = ownerOf src))
      ∧ (s.fmt.needsRoom (.char c) = true → s.head.queue.length + 12 ≤ 32)
      ∧ (src = .key → s.fmt.keyFeed = false) := by
  have hdrain : (∀ d, s.fmt.activity ≠ .draining d) ↔ s.fmt.isDraining = false := by
    rw [← Bool.not_eq_true, isDraining_iff, not_exists]
  have hfeed : (!(decide (src = .key) && s.fmt.keyFeed)) = true ↔ (src = .key → s.fmt.keyFeed = false) := by
    rw [Bool.not_eq_true', Bool.and_eq_false_imp, decide_eq_true_iff]
  simp only [printAccepts, h]
  rw [Bool.and_eq_true, formatterTakes_iff, decide_eq_true_iff, hdrain, hfeed, and_assoc, and_assoc]

theorem lineAccepts_stq (s : State) : lineAccepts .stq s = true ↔ LinePlace s ∧ keyWantsPlace s = false := by
  rw [lineAccepts, Bool.and_eq_true, linePlace_iff, Bool.not_eq_true']

/-! ### Ready (R158) -/

/-- R158: a source is ready when it holds a character, has a sink, and every sink accepts it. -/
theorem ready_iff (src : Source) (s : State) : ready src s = true
    ↔ (headCode src s).isSome = true ∧ (sinksOf src s).any = true
      ∧ ((sinksOf src s).line = true → lineAccepts src s = true)
      ∧ ((sinksOf src s).print = true → printAccepts src s = true)
      ∧ ((sinksOf src s).link = true → linkAccepts src s = true) := by
  have himp (a b : Bool) : (!a || b) = true ↔ (a = true → b = true) := by
    rw [Bool.or_eq_true, Bool.not_eq_true', ← Bool.not_eq_true, ← imp_iff_not_or]
  simp only [ready, Bool.and_eq_true, himp, and_assoc]

theorem ready_rx_iff (s : State) : ready .rx s = true ↔ s.router.store ≠ []
    ∧ (sinksOf .rx s).any = true ∧ (sinksOf .rx s).line = false
    ∧ ((sinksOf .rx s).print = true → printAccepts .rx s = true)
    ∧ ((sinksOf .rx s).link = true → s.router.rxData.length < 32) := by
  have hline : ((sinksOf .rx s).line = true → lineAccepts .rx s = true) ↔ (sinksOf .rx s).line = false := by
    rw [← Bool.not_eq_true]
    exact imp_congr_right fun _ => iff_of_false Bool.false_ne_true id
  have hlink : linkAccepts .rx s = true ↔ s.router.rxData.length < 32 := decide_eq_true_iff
  rw [ready_iff, headCode_rx_isSome, hline, hlink]

theorem ready_key_iff (s : State) : ready .key s = true ↔ s.keys.queue ≠ []
    ∧ (sinksOf .key s).any = true ∧ ((sinksOf .key s).line = true → LinePlace s)
    ∧ ((sinksOf .key s).print = true → printAccepts .key s = true)
    ∧ ((sinksOf .key s).link = true → s.router.keyData.length < 16) := by
  have hline : lineAccepts .key s = true ↔ LinePlace s := linePlace_iff s
  have hlink : linkAccepts .key s = true ↔ s.router.keyData.length < 16 := decide_eq_true_iff
  rw [ready_iff, headCode_key_isSome, hline, hlink]

theorem ready_stq_iff (s : State) : ready .stq s = true ↔ s.router.stq ≠ []
    ∧ (sinksOf .stq s).any = true ∧ ((sinksOf .stq s).line = true → LinePlace s ∧ keyWantsPlace s = false)
    ∧ ((sinksOf .stq s).print = true → printAccepts .stq s = true)
    ∧ (sinksOf .stq s).link = false := by
  have hlink : ((sinksOf .stq s).link = true → linkAccepts .stq s = true) ↔ (sinksOf .stq s).link = false := by
    rw [← Bool.not_eq_true]
    exact imp_congr_right fun _ => iff_of_false Bool.false_ne_true id
  rw [ready_iff, headCode_stq_isSome, lineAccepts_stq, hlink]

/-- Settles O45: the sinks by the presence of LINE, readiness sink by sink, and the take in one update. -/
theorem sourcesAreTaken : Obligations.SourcesAreTaken := by
  constructor
  · intro s present place
    exact ⟨fun hthere src => sinksOf_present src hthere,
      fun habsent => ⟨sinksOf_rx s, sinksOf_key_absent habsent, sinksOf_stq_absent habsent⟩,
      fun src c hhead => printAccepts_iff hhead, ready_rx_iff s, ready_key_iff s, ready_stq_iff s⟩
  · intro s src hreset
    rw [routerTake_running src hreset]
    refine ⟨fun hready => ?_, fun hunready => ?_⟩
    · rw [takeIfReady, if_pos hready, takeSource_eq_sourceTaken]
    · rw [takeIfReady, if_neg (Bool.eq_false_iff.1 hunready)]

end Sys2Proof.Steps
end

section
/-!
O4: frames of a wrong length, unready frames and torn frames (R178, R179, R182, R188).
-/

namespace Sys2Proof.Steps

open Sys2Proof.Machine Sys2Proof.Safety Sys2Proof.Laws

variable {s : State} {dt : Micros} {kind : Byte} {p : List Byte}

/-! ### Payloads of a wrong length (R188) -/

theorem noPayload_length (h : p.length ≠ 0) : noPayload p = .error .length := by
  unfold noPayload
  split
  · exact absurd rfl h
  · rfl

theorem readNamed_length {α : Type} (name : Byte → Option α) (h : p.length ≠ 1) : readNamed name p = .error .length := by
  unfold readNamed
  split
  · exact absurd rfl h
  · rfl

theorem readDensity_length (h : p.length ≠ 3) : readDensity p = .error .length := by
  unfold readDensity
  split
  · exact absurd rfl h
  · rfl

theorem readText_length (h : ¬ (1 ≤ p.length ∧ p.length ≤ 38)) : readText p = .error .length := by
  refine if_pos ?_
  rw [← List.length_eq_zero_iff]
  omega

theorem readFeed_length (h : p.length ≠ 1) : readFeed p = .error .length := by
  unfold readFeed
  split
  · exact absurd rfl h
  · rfl

theorem readGlyph_length (h : p.length ≠ 11) : readGlyph p = .error .length := by
  cases p with
  | nil => rfl
  | cons code rows => exact if_neg fun hrows => h (congrArg Nat.succ hrows)

theorem readLine_length (h : p.length ≠ 7) : readLine p = .error .length := by
  unfold readLine
  split
  · exact absurd rfl h
  · rfl

theorem readCarrier_length (h : p.length ≠ 5) : readCarrier p = .error .length := by
  unfold readCarrier
  split
  · exact absurd rfl h
  · rfl

theorem readKeys_length (h : p.length ≠ 5) : readKeys p = .error .length := by
  unfold readKeys
  split
  · exact absurd rfl h
  · rfl

theorem readKeymap_length (h : ¬ (5 ≤ p.length ∧ p.length ≤ 38 ∧ p.length % 3 = 2)) : readKeymap p = .error .length := by
  unfold readKeymap
  split
  · next body =>
    refine if_neg fun hbody => h ?_
    simp only [List.length_cons]
    omega
  · rfl

theorem readRoutes_length (h : p.length ≠ 3) : readRoutes p = .error .length := by
  unfold readRoutes
  split
  · exact absurd rfl h
  · rfl

theorem readFlow_length (h : p.length ≠ 4) : readFlow p = .error .length := by
  unfold readFlow
  split
  · exact absurd rfl h
  · rfl

/-! ### SET FORMAT, whose length its presence byte decides (R188) -/

theorem takeByte_rest {present : Bool} {rest more : List Byte} {f : Option Byte} (h : takeByte present rest = some (f, more)) :
    more = rest.drop present.toNat ∧ rest.length = more.length + present.toNat := by
  cases present with
  | false => exact ⟨(Prod.mk.inj (Option.some.inj h)).2.symm, congrArg List.length (Prod.mk.inj (Option.some.inj h)).2⟩
  | true =>
    cases rest with
    | nil => simp [takeByte] at h
    | cons b rest =>
      obtain rfl : rest = more := (Prod.mk.inj (Option.some.inj h)).2
      exact ⟨rfl, rfl⟩

theorem takeTabs_absent {rest more : List Byte} {f : Option (List Byte)} (h : takeTabs false rest = some (f, more)) :
    more = rest := (Prod.mk.inj (Option.some.inj h)).2.symm

theorem takeTabs_present {rest more : List Byte} {f : Option (List Byte)} (h : takeTabs true rest = some (f, more)) :
    ∃ stops : Byte, rest[0]? = some stops ∧ rest.length = 1 + stops.toNat + more.length := by
  cases rest with
  | nil => simp [takeTabs] at h
  | cons n rest =>
    simp only [takeTabs, if_true] at h
    split_ifs at h with hn
    obtain rfl : rest.drop n.toNat = more := (Prod.mk.inj (Option.some.inj h)).2
    refine ⟨n, rfl, ?_⟩
    rw [List.length_cons, List.length_drop]
    omega

theorem takeWord_rest {present : Bool} {rest more : List Byte} {f : Option Nat} (h : takeWord present rest = some (f, more)) :
    rest.length = more.length + 2 * present.toNat := by
  cases present with
  | false => exact congrArg List.length (Prod.mk.inj (Option.some.inj h)).2
  | true =>
    match rest, h with
    | low :: high :: rest, h => exact congrArg (List.length · + 2) (Prod.mk.inj (Option.some.inj h)).2

/-- The fields before the tab stops, counted. -/
theorem fieldsBefore_eq (bits : Byte) : ((List.range 5).filter fun i => bits.getLsbD i).length
    = (bits.getLsbD 0).toNat + (bits.getLsbD 1).toNat + (bits.getLsbD 2).toNat + (bits.getLsbD 3).toNat
      + (bits.getLsbD 4).toNat := by
  have hcount : ∀ a b c d e : Bool, ((List.range 5).filter fun i => [a, b, c, d, e].getD i false).length
      = a.toNat + b.toNat + c.toNat + d.toNat + e.toNat := by decide
  rw [← hcount]
  refine congrArg List.length (List.filter_congr fun i hi => ?_)
  obtain h | h | h | h | h : i = 0 ∨ i = 1 ∨ i = 2 ∨ i = 3 ∨ i = 4 := by
    have := List.mem_range.1 hi
    omega
  all_goals rw [h]; rfl

/-- R188: what splits into its fields has their length. -/
theorem formatLengthFits_of_split {r : RawFormat} (h : splitFormat p = some r) : formatLengthFits p = true := by
  cases p with
  | nil => simp [splitFormat] at h
  | cons bits rest =>
    simp only [splitFormat, Option.bind_eq_some_iff, Prod.exists] at h
    obtain ⟨_, r1, h0, _, r2, h1, _, r3, h2, _, r4, h3, _, r5, h4, _, r6, h5, _, r7, h6, _, r8, h7, hend⟩ := h
    obtain ⟨e1, l1⟩ := takeByte_rest h0
    obtain ⟨e2, l2⟩ := takeByte_rest h1
    obtain ⟨e3, l3⟩ := takeByte_rest h2
    obtain ⟨e4, l4⟩ := takeByte_rest h3
    obtain ⟨e5, l5⟩ := takeByte_rest h4
    obtain ⟨-, l7⟩ := takeByte_rest h6
    have l8 := takeWord_rest h7
    have l9 : r8.length = 0 := by
      split_ifs at hend with he
      rw [he]; rfl
    have hafter : (if bits.getLsbD 6 then 1 else 0) + (if bits.getLsbD 7 then 2 else 0)
        = (bits.getLsbD 6).toNat + 2 * (bits.getLsbD 7).toNat := by
      cases bits.getLsbD 6 <;> cases bits.getLsbD 7 <;> rfl
    have e : r5 = rest.drop ((List.range 5).filter fun i => bits.getLsbD i).length := by
      rw [fieldsBefore_eq, e5, e4, e3, e2, e1]
      simp only [List.drop_drop]
    have l := fieldsBefore_eq bits
    simp only [formatLengthFits, hafter]
    cases h5b : bits.getLsbD 5 with
    | false =>
      rw [h5b] at h5
      have := takeTabs_absent h5
      subst this
      exact decide_eq_true (by omega)
    | true =>
      rw [h5b] at h5
      obtain ⟨stops, hstops, l6⟩ := takeTabs_present h5
      rw [e, List.getElem?_drop, Nat.add_zero] at hstops
      simp only [if_true, hstops]
      exact decide_eq_true (by omega)

theorem readFormat_length (h : formatLengthFits p = false) : readFormat p = .error .length := by
  cases hs : splitFormat p with
  | none => simp only [readFormat, hs]
  | some r => exact absurd (formatLengthFits_of_split hs) (Bool.eq_false_iff.1 h)

/-! ### The command rows -/

/-- R179, R180: a payload that cannot be read is answered before the command acts. -/
theorem answer_of_error {α : Type} {why : Reason} {read : Except Reason α} (act : α → State → State × Reply)
    (h : read = .error why) (s : State) : answer kind read act s = (s, .reject kind why) := by
  rw [h, answer_error]

/-- Each command row completes a frame of its kind, and a payload of a wrong length for that kind is refused for its length. -/
theorem exec_commandFrame {i : Instr} (hi : commandFrame i = some (dt, kind, p)) :
    ∃ act, (∀ s, exec i s = commandRow kind dt p act s)
      ∧ (lengthFits kind p = false → ∀ s, act s = (s, .reject kind .length)) := by
  cases i <;> simp only [commandFrame, Option.some.injEq, Prod.mk.injEq, reduceCtorEq] at hi <;> obtain ⟨rfl, rfl, rfl⟩ := hi
  case identify => exact ⟨_, fun _ => rfl, fun h => answer_of_error _ (noPayload_length (of_decide_eq_false h))⟩
  case restart => exact ⟨_, fun _ => rfl, fun h => answer_of_error _ (noPayload_length (of_decide_eq_false h))⟩
  case readConditions => exact ⟨_, fun _ => rfl, fun h => answer_of_error _ (noPayload_length (of_decide_eq_false h))⟩
  case readStatus => exact ⟨_, fun _ => rfl, fun h => answer_of_error _ (readNamed_length _ (of_decide_eq_false h))⟩
  case setReports => exact ⟨_, fun _ => rfl, fun h => answer_of_error _ (readNamed_length _ (of_decide_eq_false h))⟩
  case setHead =>
    refine ⟨_, fun _ => rfl, fun h s => ?_⟩
    exact answer_of_error (read := judgeHead _ s) _ (if_neg (of_decide_eq_false h)) s
  case setDensity => exact ⟨_, fun _ => rfl, fun h => answer_of_error _ (readDensity_length (of_decide_eq_false h))⟩
  case printText => exact ⟨_, fun _ => rfl, fun h => answer_of_error _ (readText_length (of_decide_eq_false h))⟩
  case setFormat => exact ⟨_, fun _ => rfl, fun h => answer_of_error _ (readFormat_length h)⟩
  case saveFormat => exact ⟨_, fun _ => rfl, fun h => answer_of_error _ (noPayload_length (of_decide_eq_false h))⟩
  case restoreFormat => exact ⟨_, fun _ => rfl, fun h => answer_of_error _ (noPayload_length (of_decide_eq_false h))⟩
  case feed => exact ⟨_, fun _ => rfl, fun h => answer_of_error _ (readFeed_length (of_decide_eq_false h))⟩
  case loadGlyph => exact ⟨_, fun _ => rfl, fun h => answer_of_error _ (readGlyph_length (of_decide_eq_false h))⟩
  case setLine => exact ⟨_, fun _ => rfl, fun h => answer_of_error _ (readLine_length (of_decide_eq_false h))⟩
  case setCarrier => exact ⟨_, fun _ => rfl, fun h => answer_of_error _ (readCarrier_length (of_decide_eq_false h))⟩
  case connect => exact ⟨_, fun _ => rfl, fun h => answer_of_error _ (readNamed_length _ (of_decide_eq_false h))⟩
  case disconnect => exact ⟨_, fun _ => rfl, fun h => answer_of_error _ (noPayload_length (of_decide_eq_false h))⟩
  case sendBreak => exact ⟨_, fun _ => rfl, fun h => answer_of_error _ (noPayload_length (of_decide_eq_false h))⟩
  case setLoop => exact ⟨_, fun _ => rfl, fun h => answer_of_error _ (readNamed_length _ (of_decide_eq_false h))⟩
  case setKeys => exact ⟨_, fun _ => rfl, fun h => answer_of_error _ (readKeys_length (of_decide_eq_false h))⟩
  case loadKeymap => exact ⟨_, fun _ => rfl, fun h => answer_of_error _ (readKeymap_length (of_decide_eq_false h))⟩
  case sendText => exact ⟨_, fun _ => rfl, fun h => answer_of_error _ (readText_length (of_decide_eq_false h))⟩
  case setRoutes => exact ⟨_, fun _ => rfl, fun h => answer_of_error _ (readRoutes_length (of_decide_eq_false h))⟩
  case setFlow => exact ⟨_, fun _ => rfl, fun h => answer_of_error _ (readFlow_length (of_decide_eq_false h))⟩
  case clearQueue => exact ⟨_, fun _ => rfl, fun h => answer_of_error _ (readNamed_length _ (of_decide_eq_false h))⟩

/-! ### Frames that end without a command -/

/-- R178, R191: a tear may be counted before or after its latch sets. -/
theorem setLatch_countTear (k : LinkPort) :
    { k.setLatch .linkTorn with tornFrames := countUp (k.setLatch .linkTorn).tornFrames }
      = LinkPort.setLatch .linkTorn { k with tornFrames := countUp k.tornFrames } := by
  by_cases h : k.isSet .linkTorn = true
  · rw [setLatch_of_isSet k _ h]
    exact (setLatch_of_isSet { k with tornFrames := countUp k.tornFrames } _ h).symm
  · simp only [LinkPort.setLatch, if_neg h]
    exact (if_neg h).symm

/-- R178: a torn frame that is ready. -/
theorem tearFrame_ready {bytes : List Byte} (h : s.link.receiver = .inside true bytes) :
    tearFrame s = { s with link := LinkPort.setLatch .linkTorn { s.link with
      receiver := .outside
      gap := none
      replies := s.link.replies ++ [.reject (bytes.headD 0x00) .torn]
      tornFrames := min (s.link.tornFrames + 1) 65535 } } := by
  simp only [tearFrame, h, tornKind, List.headD_eq_head?_getD]
  exact congrArg (fun k => { s with link := k }) (setLatch_countTear { s.link with
    receiver := .outside, gap := none, replies := s.link.replies ++ [.reject (bytes.head?.getD 0x00) .torn] })

theorem tearFrame_unready {bytes : List Byte} (h : s.link.receiver = .inside false bytes) :
    tearFrame s = discardUnready s := by
  simp only [tearFrame, h]

theorem endUnready_inside {bytes : List Byte} (h : s.link.receiver = .inside false bytes) :
    endUnready s = discardUnready s := by
  simp only [endUnready, h]

/-- Settles O4: a command row's own reader refuses a wrong length, and the other frames end as they stand. -/
theorem framesTurnedAway : Obligations.FramesTurnedAway := by
  refine ⟨fun i s dt kind p hi h hlength => ?_, fun i s dt kind p hi h => ?_, fun s dt due bytes hreset =>
    ⟨fun hin hgap => ?_, fun hin hgap => ?_, fun hin => ?_⟩⟩
  · obtain ⟨act, hexec, hact⟩ := exec_commandFrame hi
    rw [hexec, commandRow_of_canTake act h, hact hlength]
    rfl
  · obtain ⟨act, hexec, -⟩ := exec_commandFrame hi
    rw [hexec, commandRow_of_canDiscard act h]
    rfl
  · rw [gapTimerExpiry_due hreset hgap, tearFrame_ready (s := atMoment due s) hin]
    rfl
  · rw [gapTimerExpiry_due hreset hgap, tearFrame_unready (s := atMoment due s) hin]
    rfl
  · rw [unreadyFrame_running hreset, endUnready_inside (s := after dt s) hin]
    rfl

end Sys2Proof.Steps
end

section
/-!
O5: the link's own commands (R184, R186, R192, R193, R195).
-/

namespace Sys2Proof.Steps

open Sys2Proof.Machine Sys2Proof.Safety Sys2Proof.Laws

variable {s : State} {dt : Micros}

/-- R188: the four groups, by their codes. -/
theorem groupOf_code (g : Group) : groupOf g.code = some g := by cases g <;> rfl

theorem groupOf_eq (b : Byte) : groupOf b = [Group.line, .print, .keys, .supply][b.toNat]? := by
  revert b
  decide

theorem groupOf_above {b : Byte} (h : 3 < b.toNat) : groupOf b = none :=
  (groupOf_eq b).trans (List.getElem?_eq_none h)

/-- R184: no bit outside the five kinds is set exactly in the bytes below 32. -/
theorem and_E0_eq_zero_iff (b : Byte) : b &&& 0xE0 = 0 ↔ b.toNat < 32 := by
  revert b
  decide

theorem readNamed_ok {α : Type} {name : Byte → Option α} {b : Byte} {x : α} (h : name b = some x) :
    readNamed name [b] = .ok x := by
  simp only [readNamed, h]

theorem readNamed_range {α : Type} {name : Byte → Option α} {b : Byte} (h : name b = none) :
    readNamed name [b] = .error .range := by
  simp only [readNamed, h]

/-- Settles O5: each payload is read as it names, and each command's effect is its own. -/
theorem linkCommands : Obligations.LinkCommands := by
  refine ⟨fun s dt => ⟨fun h => ?_, fun h => ?_, fun g h => ?_, fun b hb h => ?_, fun h => ?_⟩,
    fun s dt b h => ⟨fun hb => ?_, fun hb => ?_⟩⟩
  · rw [identify_taken h]
    rfl
  · rw [readConditions_taken h]
    rfl
  · rw [readStatus_taken h, actReadStatus, readNamed_ok (groupOf_code g)]
    rfl
  · rw [readStatus_taken h, actReadStatus, readNamed_range (groupOf_above hb)]
    rfl
  · rw [restart_taken h]
    rfl
  · have hmask : maskOf b = none := if_neg (mt (and_E0_eq_zero_iff b).1 (by omega))
    rw [setReports_taken h, actSetReports, readNamed_range hmask]
    rfl
  · have hmask : maskOf b = some _ := if_pos ((and_E0_eq_zero_iff b).2 hb)
    rw [setReports_taken h, actSetReports, readNamed_ok hmask]
    rfl

end Sys2Proof.Steps
end

section
/-!
O6: LRDY, the receiver byte by byte, and the frames refused by their check byte or their kind (R177, R178, R179, R182).
-/

namespace Sys2Proof.Steps

open Sys2Proof.Machine Sys2Proof.Safety Sys2Proof.Laws

variable {s : State} {dt : Micros} {kind : Byte} {p bytes : List Byte} {isReady : Bool} {b : Byte}

/-- R182: when LRDY is high. -/
theorem lrdy_iff (s : State) : lrdy s = true
    ↔ s.link.replies.length < 4 ∧ s.link.restartOwed = false ∧ s.resetting = none := by
  simp only [lrdy, Bool.and_eq_true, decide_eq_true_eq, Bool.not_eq_true', Option.isNone_iff_eq_none, and_assoc]

/-! ### Bytes -/

theorem openFrame_outside (h : s.link.receiver = .outside) : openFrame s
    = { s with link := { s.link with receiver := .inside (lrdy s) [], gap := some (s.now + 10000) } } := by
  simp only [openFrame, h]

/-- R177: a byte of a frame is a kind, a length of at most 40, or a payload byte still owed. -/
theorem frameByteFits_iff (bytes : List Byte) (b : Byte) : frameByteFits bytes b = true
    ↔ bytes.length = 0 ∨ (bytes.length = 1 ∧ b.toNat ≤ 40)
      ∨ (2 ≤ bytes.length ∧ bytes.length < 2 + (bytes.getD 1 0).toNat) := by
  match bytes with
  | [] => simp [frameByteFits]
  | [_] => simp [frameByteFits]
  | kind :: len :: payload =>
    simp only [frameByteFits, decide_eq_true_eq, List.length_cons, List.getD_cons_succ, List.getD_cons_zero]
    omega

theorem collectByte_fits (h : s.link.receiver = .inside isReady bytes) (hfits : frameByteFits bytes b = true) :
    collectByte b s
      = { s with link := { s.link with receiver := .inside isReady (bytes ++ [b]), gap := some (s.now + 10000) } } := by
  simp only [collectByte, h, if_pos hfits]

theorem countStray_outside (h : s.link.receiver = .outside) (hb : b ≠ 0xC3) :
    countStray b s = { s with link := { s.link with strayBytes := min (s.link.strayBytes + 1) 65535 } } := by
  simp only [countStray, h, if_neg hb]
  rfl

theorem longLength_ready (h : s.link.receiver = .inside true [kind]) (hb : 40 < b.toNat) :
    longLength b s = reply (.reject kind .length) (closeFrame s) := by
  simp only [longLength, if_pos hb, endByLength, h]

theorem longLength_unready (h : s.link.receiver = .inside false [kind]) (hb : 40 < b.toNat) :
    longLength b s = discardUnready s := by
  simp only [longLength, if_pos hb, endByLength, h]

/-! ### Frames refused (R179) -/

theorem toNat_foldr_add (l : List Byte) : (l.foldr (· + ·) 0).toNat = (l.map BitVec.toNat).sum % 256 := by
  induction l with
  | nil => rfl
  | cons a l ih =>
    rw [List.foldr_cons, BitVec.toNat_add, ih, List.map_cons, List.sum_cons]
    omega

/-- The bytes after the lead sum to 0 modulo 256. -/
theorem frameSum_eq_zero_iff (kind : Byte) (p : List Byte) (check : Byte) : frameSum kind p check = 0
    ↔ (kind.toNat + p.length + (p.map BitVec.toNat).sum + check.toNat) % 256 = 0 := by
  have hzero : (0 : Byte).toNat = 0 := rfl
  rw [← BitVec.toNat_inj, hzero]
  simp only [frameSum, BitVec.toNat_add, toNat_foldr_add, BitVec.toNat_ofNat]
  omega

theorem rejectCheck_wrong {check : Byte} (h : frameSum kind p check ≠ 0) :
    rejectCheck kind p check s = complete kind p (fun s => (s, .reject kind .check)) s := if_neg h

theorem rejectUnknown_outside_table (h : kind ∉ commandKinds) :
    rejectUnknown kind p s = complete kind p (fun s => (s, .reject kind .unknown)) s :=
  if_neg (mt List.contains_iff_mem.1 h)

/-- Settles O6: the receiver's moves by its position in the frame, and the two frames refused. -/
theorem receiverTakesBytes : Obligations.ReceiverTakesBytes := by
  refine ⟨lrdy_iff, fun s dt b hreset => ⟨fun hout => ?_, fun isReady bytes hin hfits => ?_, fun hout hb => ?_,
    fun kind hin hb => ?_, fun kind hin hb => ?_⟩, fun s dt kind p h => ⟨fun check hsum => ?_, fun hkind => ?_⟩⟩
  · rw [leadByte_running hreset, openFrame_outside (s := after dt s) hout]
    rfl
  · rw [frameByteReceived_running b hreset,
      collectByte_fits (s := after dt s) hin ((frameByteFits_iff bytes b).2 hfits)]
    rfl
  · rw [strayByte_running b hreset, countStray_outside (s := after dt s) hout hb]
    rfl
  · rw [lengthByteAbove40_running b hreset, longLength_ready (s := after dt s) hin hb]
    rfl
  · rw [lengthByteAbove40_running b hreset, longLength_unready (s := after dt s) hin hb]
    rfl
  · rw [wrongCheckByte_running kind p check h.1, rejectCheck_wrong (mt (frameSum_eq_zero_iff kind p check).1 hsum),
      complete_of_canTake _ h]
    rfl
  · rw [unknownKindFrame_running kind p h.1, rejectUnknown_outside_table hkind, complete_of_canTake _ h]
    rfl

end Sys2Proof.Steps
end

section
/-!
O8: the frames of the replies, and the four status groups (R180, R186, R189, R190, R192, R193).
-/

namespace Sys2Proof.Steps

open Sys2Proof.Machine Sys2Proof.Safety Sys2Proof.Laws

/-! ### Codes and flags (R180, R186, R189, R190) -/

theorem reasonCode_eq (why : Reason) :
    why.code = codeIn [.check, .length, .unknown, .torn, .range, .state, .locked] why + 1 := by cases why <;> rfl

theorem causeCode_eq (c : Cause) : c.code = codeIn [.power, .pin, .command] c + 1 := by cases c <;> rfl

theorem connStateCode_eq (c : ConnState) :
    c.code = codeIn [.idle, .waitAnswer, .answering, .settle, .online, .fade, .clearing, .test] c := by cases c <;> rfl

theorem loopModeCode_eq (m : LoopMode) : m.code = codeIn [.normal, .localTone, .localChar, .remoteEcho] m := by
  cases m <;> rfl

theorem ownerCode_eq (o : Owner) : o.code = codeIn [.none, .rx, .key, .stq, .ptq] o := by cases o <;> rfl

theorem driverStateCode_eq (d : DriverState) :
    d.code = codeIn [.unconfigured, .idle, .energizing, .burning, .stepping, .settling, .paused] d := by cases d <;> rfl

theorem slotCode_eq (slot : Option FlowCode) : slotCode slot = match slot with
    | none => 0x00
    | some f => codeIn [.hold, .resume] f.kind + 1 := by
  rcases slot with _ | ⟨kind, code⟩
  · rfl
  · cases kind <;> rfl

theorem byteOf_three_flags (a b c : Bool) : byteOf (flagBit a 0 + flagBit b 1 + flagBit c 2) = flagsOf [a, b, c] := by
  revert a b c
  decide

theorem byteOf_four_flags (a b c d : Bool) :
    byteOf (flagBit a 0 + flagBit b 1 + flagBit c 2 + flagBit d 3) = flagsOf [a, b, c, d] := by
  revert a b c d
  decide

/-- R189: the connect state, the line flags and the loop mode. -/
theorem lineStateBytes_eq (s : State) : [s.conn.state.code, lineFlags s, s.conn.loop.code] = lineStateBytes s := by
  rw [lineStateBytes, lineFlags, byteOf_four_flags, connStateCode_eq, loopModeCode_eq]

/-! ### The tab stops (R190) -/

/-- R190: a byte made of eight flags has them as its bits. -/
theorem getLsbD_eight_flags (f : Nat → Bool) {i : Nat} (hi : i < 8) :
    (byteOf (((List.range 8).map fun i => flagBit (f i) i).sum)).getLsbD i = f i := by
  have hbits : byteOf (((List.range 8).map fun i => flagBit (f i) i).sum)
      = BitVec.ofBoolListLE [f 0, f 1, f 2, f 3, f 4, f 5, f 6, f 7] := by
    refine Eq.trans (congrArg (BitVec.ofNat 8) ?_) (ofNat_bits (f 0) (f 1) (f 2) (f 3) (f 4) (f 5) (f 6) (f 7))
    simp only [List.range_succ, List.range_zero, List.nil_append, List.cons_append, List.map_cons, List.map_nil,
      List.sum_cons, List.sum_nil, flagBit]
    omega
  rw [hbits]
  refine BitVec.getLsbD_ofBoolListLE.trans ?_
  interval_cases i <;> rfl

/-- R190: column `c` is bit `c mod 8` of byte `c / 8`. -/
theorem tabBytes_bit (tabs : List Nat) {c : Nat} (hc : c < 40) :
    ((Machine.tabBytes tabs).getD (c / 8) 0).getLsbD (c % 8) = tabs.contains c := by
  have hbyte : (Machine.tabBytes tabs).getD (c / 8) 0
      = byteOf (((List.range 8).map fun i => flagBit (tabs.contains (8 * (c / 8) + i)) i).sum) := by
    rw [Machine.tabBytes, List.getD_eq_getElem?_getD, List.getElem?_map, List.getElem?_range (by omega)]
    rfl
  rw [hbyte, getLsbD_eight_flags (fun i => tabs.contains (8 * (c / 8) + i)) (Nat.mod_lt c (by decide)), Nat.div_add_mod]

/-! ### The payloads -/

theorem identifyPayload_eq (s : State) : identifyPayload s
    = [0x00, 0x21, 0x41, 0x43, if s.head.config = none then 0x00 else 0x01,
        codeIn [.power, .pin, .command] s.link.lastCause + 1] := by
  rw [identifyPayload, causeCode_eq]
  cases s.head.config <;> rfl

theorem keptCauseByte_eq (k : LinkPort) : keptCauseByte k = if k.isSet .restarted then
    (k.keptCause.map fun c => codeIn [.power, .pin, .command] c + 1).getD 0x00 else 0x00 := by
  unfold keptCauseByte
  cases k.keptCause with
  | none => exact (ite_self _).symm
  | some c => exact congrArg (fun code => if k.isSet .restarted then code else 0x00) (causeCode_eq c)

theorem lineGroup_eq (s : State) : lineGroup s = lineStateBytes s
    ++ [match s.router.slot with
        | none => 0x00
        | some f => codeIn [.hold, .resume] f.kind + 1,
      oneByte s.router.store.length, oneByte s.router.txQueue.length]
    ++ ([s.signal.received, s.router.parityErrors, s.router.framingErrors, s.router.overruns, s.signal.muted,
      s.router.discards, s.router.echoDrops].map twoBytes).flatten := by
  rw [← lineStateBytes_eq, lineGroup, slotCode_eq]
  rfl

theorem printGroup_eq (s : State) : printGroup s
    = [oneByte s.fmt.window.length, oneByte s.fmt.cursorLine, oneByte s.fmt.column,
        oneByte s.fmt.layout.mark, codeIn [.none, .rx, .key, .stq, .ptq] s.fmt.owner, s.fmt.activity.code,
        oneByte s.fmt.formCounter, oneByte s.fmt.ptq.length, oneByte s.fmt.stack.length,
        oneByte s.fmt.layout.left, oneByte s.fmt.layout.right,
        flagsOf [s.fmt.layout.wrap, s.fmt.layout.double, s.head.config.isSome], oneByte s.fmt.formLength]
      ++ twoBytes s.fmt.flushDelay ++ Machine.tabBytes s.fmt.layout.tabs
      ++ [codeIn [.unconfigured, .idle, .energizing, .burning, .stepping, .settling, .paused] s.head.state,
        flagsOf [s.head.reasons.hot, s.head.reasons.starved, s.head.reasons.batteryLow, s.head.reasons.noPaper],
        oneByte s.head.queue.length]
      ++ twoBytes s.head.rowsBurned ++ twoBytes s.head.phasesBurned := by
  rw [printGroup, ownerCode_eq, printFlags, byteOf_three_flags, driverStateCode_eq, Reasons.code, byteOf_four_flags]
  rfl

theorem keysGroup_eq (s : State) : keysGroup s
    = [oneByte s.keys.queue.length,
        flagsOf [s.keys.lock, s.keys.holds .shift, s.keys.holds .ctrl, s.keys.holds .fn],
        oneByte (s.keys.records.filter fun r => r.down).length]
      ++ twoBytes s.keys.keysLost ++ twoBytes s.keys.ghosts := by
  rw [keysGroup, keyFlags, byteOf_four_flags]
  rfl

theorem supplyGroup_eq (s : State) : supplyGroup s
    = twoBytes (if s.supply.battery.valid then 40 * s.supply.battery.code.toNat else 0)
      ++ [if s.supply.temp.valid then
            BitVec.ofInt 8 (90 - ((s.supply.temp.code.toNat * 100 / 255 : Nat) : Int)) else 0,
          if s.supply.level.valid then s.supply.level.code else 0,
          flagsOf [s.supply.battery.valid, s.supply.temp.valid, s.supply.level.valid]]
      ++ twoBytes (iMax s)
      ++ twoBytes ((if carrierOn s.conn then 60 else 0)
        + match s.head.motor with
          | .released => 0
          | .energizing | .held => 120
          | .stepping => 350)
      ++ [oneByte s.supply.lastLimit] ++ twoBytes s.supply.lastCold ++ twoBytes s.supply.lastHot
      ++ [flagsOf [s.supply.hot, s.supply.starved, s.supply.batteryLow]] := by
  rw [supplyGroup, shownVolts, millivolts_eq, validFlags, byteOf_three_flags, indications, byteOf_three_flags]
  rfl

/-- Settles O8: each reply's frame by its payload, and each group by its fields. -/
theorem repliesAndStatusGroups : Obligations.RepliesAndStatusGroups := by
  refine ⟨fun s k n why => ⟨rfl, rfl, rfl, ?_, rfl, ?_, ?_⟩, fun s line hline => ⟨?_, ?_, ?_, ?_⟩⟩
  · rw [← reasonCode_eq]
    rfl
  · rw [← identifyPayload_eq]
    rfl
  · rw [← keptCauseByte_eq]
    rfl
  · rw [hline]
    exact congrArg (fun fields => sending 0x84 ([0x00, 0x00] ++ fields) false s) (lineGroup_eq s)
  · refine ⟨Machine.tabBytes s.fmt.layout.tabs, rfl, fun c hc => tabBytes_bit _ hc, ?_⟩
    exact congrArg (fun fields => sending 0x84 ([0x00, 0x01] ++ fields) false s) (printGroup_eq s)
  · exact congrArg (fun fields => sending 0x84 ([0x00, 0x02] ++ fields) false s) (keysGroup_eq s)
  · exact congrArg (fun fields => sending 0x84 ([0x00, 0x03] ++ fields) false s) (supplyGroup_eq s)

end Sys2Proof.Steps
end

section
/-!
O9: the sixteen latches, and the report that an idle transmitter begins (R183, R184, R185, R189, R191).
-/

namespace Sys2Proof.Steps

open Sys2Proof.Machine Sys2Proof.Safety Sys2Proof.Laws

variable {s : State}

/-! ### The latch mask (R189) -/

/-- R189: the latches in the order of their bits. -/
def latchMask : List Latch :=
  [.restarted, .connectFailed, .carrierDropped, .carrierFaded, .rxOverrun, .rxError, .breakSeen, .holdExpired, .keyLost,
    .topClamp, .formatUnderflow, .paperOut, .headHot, .supplyStarved, .batteryLow, .linkTorn]

theorem mem_latchMask (l : Latch) : l ∈ latchMask := by cases l <;> decide

theorem bit_of_latchMask {l : Latch} {n : Nat} (h : latchMask[n]? = some l) : l.bit = n := by
  have hbit : ∀ i : Fin 16, (latchMask[i.val]?.map Latch.bit) = some i.val := by decide
  have hn : n < 16 := (List.getElem?_eq_some_iff.1 h).1
  have := hbit ⟨n, hn⟩
  rw [h] at this
  exact Option.some.inj this

/-- R191: a latch that is clear becomes set, and asks for a report. -/
theorem setLatch_of_clear (k : LinkPort) {l : Latch} (h : k.isSet l = false) : k.setLatch l = { k with
    latches := k.latches ||| (1 <<< l.bit), pendCondition := k.pendCondition || k.mask.condition } :=
  if_neg (Bool.eq_false_iff.1 h)

/-! ### The reports (R183 to R185) -/

theorem kickLink_report (htx : s.link.tx = none) (hreplies : s.link.replies = []) : kickLink s = sendReport s := by
  simp only [kickLink, htx, hreplies]

theorem sendCondition_eq (s : State) : sendCondition s = sending 0x61 (twoBytes s.link.latches.toNat) false
    { s with link := { s.link with pendCondition := false } } := rfl

theorem sendLineState_eq (s : State) : sendLineState s = sending 0x62 (lineStateBytes s) false
    { s with link := { s.link with pendLineState := false } } := by
  rw [← lineStateBytes_eq]
  rfl

theorem sendRxData_eq (s : State) : sendRxData s
    = sending 0x63 (oneByte (min 16 s.router.rxData.length) :: s.router.rxData.take 16) false
      { s with router := { s.router with rxData := s.router.rxData.drop 16 } } := by
  rw [sendRxData, List.length_take]
  rfl

theorem sendKeyData_eq (s : State) : sendKeyData s
    = sending 0x64 (oneByte (min 16 s.router.keyData.length)
        :: (s.router.keyData.take 16).flatMap fun c => [c.code, if c.repeated then 0x01 else 0x00]) false
      { s with router := { s.router with keyData := s.router.keyData.drop 16 } } := by
  rw [sendKeyData, List.length_take]
  rfl

theorem sendSpace_eq (s : State) : sendSpace s
    = sending 0x65 [oneByte (64 - s.fmt.ptq.length), oneByte (64 - s.router.stq.length)] false
      { s with link := { s.link with pendSpace := false } } := rfl

/-- Settles O9: each latch by its bit, and each report by the pending flags above it. -/
theorem latchesAndReports : Obligations.LatchesAndReports := by
  refine ⟨mem_latchMask, fun k l n hn => ?_, fun s htx hreplies => ?_⟩
  · obtain rfl := bit_of_latchMask hn
    refine ⟨rfl, setLatch_of_isSet k l, setLatch_of_clear k, ?_, fun l' hne => ?_⟩
    · rw [isSet_setLatch, decide_eq_true rfl, Bool.or_true]
    · rw [isSet_setLatch, decide_eq_false hne.symm, Bool.or_false]
  · rw [kickLink_report htx hreplies]
    refine ⟨fun hcond => ?_, fun hcond hline => ?_, fun hcond hline =>
      ⟨fun hrx => ?_, fun hrx hkeys => ?_, fun hrx hkeys hspace => ?_⟩⟩
    · rw [sendReport, if_pos hcond, sendCondition_eq]
    · rw [sendReport, if_neg (Bool.eq_false_iff.1 hcond), if_pos hline, sendLineState_eq]
    · rw [sendReport, if_neg (Bool.eq_false_iff.1 hcond), if_neg (Bool.eq_false_iff.1 hline)]
      exact (if_pos hrx).trans (sendRxData_eq s)
    · rw [sendReport, if_neg (Bool.eq_false_iff.1 hcond), if_neg (Bool.eq_false_iff.1 hline)]
      exact (if_neg (Bool.eq_false_iff.1 hrx)).trans ((if_pos hkeys).trans (sendKeyData_eq s))
    · rw [sendReport, if_neg (Bool.eq_false_iff.1 hcond), if_neg (Bool.eq_false_iff.1 hline)]
      exact (if_neg (Bool.eq_false_iff.1 hrx)).trans
        ((if_neg (Bool.eq_false_iff.1 hkeys)).trans ((if_pos hspace).trans (sendSpace_eq s)))

end Sys2Proof.Steps
end

section
/-!
O7: the arbiter of the link transmitter, and the bits on LTXD and LRXD (R176, R183).
-/

namespace Sys2Proof.Steps

open Sys2Proof.Machine Sys2Proof.Safety Sys2Proof.Laws

variable {s : State}

/-! ### The arbiter (R183) -/

theorem kickLink_sending (h : s.link.tx ≠ none) : kickLink s = s := by
  obtain ⟨f, hf⟩ := Option.ne_none_iff_exists'.1 h
  simp only [kickLink, hf]

theorem kickLink_reply {r : Reply} {rest : List Reply} (htx : s.link.tx = none) (hreplies : s.link.replies = r :: rest) :
    kickLink s = sendReply r { s with link := { s.link with replies := rest } } := by
  simp only [kickLink, htx, hreplies]

/-- R180, R181: the frame of a reply has the reply's kind, and the reply queue stands as it begins. -/
theorem sendReply_sending (r : Reply) (s : State) : ∃ payload t,
    sendReply r s = sending (replyKindOf r) payload (decide (r = .restart)) t
      ∧ t.now = s.now ∧ t.link.replies = s.link.replies := by
  cases r <;> exact ⟨_, _, rfl, rfl, rfl⟩

/-- R185: a data report is pending while its kind is enabled and its queue holds an entry. -/
theorem rxDataPending_iff (s : State) : rxDataPending s = true ↔ s.link.mask.rxData = true ∧ s.router.rxData ≠ [] := by
  rw [rxDataPending, Bool.and_eq_true, Bool.not_eq_true', ← Bool.not_eq_true, List.isEmpty_iff]

theorem keyDataPending_iff (s : State) : keyDataPending s = true ↔ s.link.mask.keyData = true ∧ s.router.keyData ≠ [] := by
  rw [keyDataPending, Bool.and_eq_true, Bool.not_eq_true', ← Bool.not_eq_true, List.isEmpty_iff]

/-- R183 to R185: the report that begins is the highest of those pending. -/
theorem sendReport_sending (s : State) : match firstReport s with
    | some kind => ∃ payload t, sendReport s = sending kind payload false t ∧ t.now = s.now
    | none => sendReport s = s := by
  simp only [firstReport, sendReport, rxDataPending_iff, keyDataPending_iff]
  by_cases hcond : s.link.pendCondition = true
  · simp only [if_pos hcond]
    exact ⟨_, _, rfl, rfl⟩
  by_cases hline : s.link.pendLineState = true
  · simp only [if_neg hcond, if_pos hline]
    exact ⟨_, _, rfl, rfl⟩
  by_cases hrx : s.link.mask.rxData = true ∧ s.router.rxData ≠ []
  · simp only [if_neg hcond, if_neg hline, if_pos hrx]
    exact ⟨_, _, rfl, rfl⟩
  by_cases hkeys : s.link.mask.keyData = true ∧ s.router.keyData ≠ []
  · simp only [if_neg hcond, if_neg hline, if_neg hrx, if_pos hkeys]
    exact ⟨_, _, rfl, rfl⟩
  by_cases hspace : s.link.pendSpace = true
  · simp only [if_neg hcond, if_neg hline, if_neg hrx, if_neg hkeys, if_pos hspace]
    exact ⟨_, _, rfl, rfl⟩
  · simp only [if_neg hcond, if_neg hline, if_neg hrx, if_neg hkeys, if_neg hspace]

/-- The frame that has begun. -/
theorem sending_tx (kind : Byte) (payload : List Byte) (restart : Bool) (s : State) :
    ∃ f, (sending kind payload restart s).link.tx = some f ∧ f.bytes.getD 1 0 = kind
      ∧ f.due = s.now + 521 * f.bytes.length ∧ f.restart = restart := by
  have hlength : (framed kind payload).length = payload.length + 4 := by
    simp only [framed, List.length_cons, List.length_append, List.length_nil]
  exact ⟨_, rfl, rfl, by rw [hlength], rfl⟩

/-- R183: a frame other than RESTART's reply ends. -/
theorem endFrame_plain {f : TxFrame} (htx : s.link.tx = some f) (hf : f.restart = false) :
    endFrame s = { s with link := { s.link with tx := none } } := by
  simp only [endFrame, htx, endTxFrame, hf, Bool.false_eq_true, if_false]

/-! ### The bits of a byte (R176) -/

/-- R176: the start bit, the data bits with the least significant first, and the stop bit. -/
theorem wireBits_getElem? (b : Byte) {j : Nat} (hj : j < 10) :
    (wireBits b)[j]? = some (if j = 0 then false else if j = 9 then true else b.getLsbD (j - 1)) := by
  interval_cases j <;> rfl

theorem wireBits_length (b : Byte) : (wireBits b).length = 10 := rfl

/-- R176: the bytes of a frame follow one another with no gap. -/
theorem flatMap_wireBits_getElem? {bytes : List Byte} {k j : Nat} {b : Byte} (hb : bytes[k]? = some b) (hj : j < 10) :
    (bytes.flatMap wireBits)[10 * k + j]? = (wireBits b)[j]? := by
  induction bytes generalizing k with
  | nil => simp at hb
  | cons a bytes ih =>
    rw [List.flatMap_cons]
    cases k with
    | zero =>
      obtain rfl : a = b := Option.some.inj hb
      rw [Nat.mul_zero, Nat.zero_add, List.getElem?_append_left (by rw [wireBits_length]; exact hj)]
    | succ k =>
      rw [List.getElem?_append_right (by rw [wireBits_length]; omega), wireBits_length, ← ih hb]
      congr 1
      omega

theorem wireBits_codeOf {bits : List Bool} (h : bits.length = 8) : wireBits (codeOf bits) = false :: bits ++ [true] := by
  have hdata : (List.range 8).map (codeOf bits).getLsbD = bits := by
    refine List.ext_getElem (by simp [h]) fun i hi hi' => ?_
    rw [List.getElem_map, List.getElem_range, getLsbD_codeOf bits (by omega), List.getD_eq_getElem _ _ hi']
  rw [wireBits, hdata]

theorem byteOfWire_wireBits (b : Byte) : byteOfWire (wireBits b) = some b := by
  refine congrArg some (codeOf_eq fun i hi => ?_)
  interval_cases i <;> rfl

theorem wireBits_of_byteOfWire {bits : List Bool} {b : Byte} (h : byteOfWire bits = some b) : bits = wireBits b := by
  unfold byteOfWire at h
  split at h
  · obtain rfl := Option.some.inj h
    exact (wireBits_codeOf (bits := [_, _, _, _, _, _, _, _]) rfl).symm
  · simp at h

/-- R176: a low stop bit drops the byte. -/
theorem byteOfWire_low_stop {bits : List Bool} (h : bits.getLast? = some false) : byteOfWire bits = none := by
  cases hb : byteOfWire bits with
  | none => rfl
  | some b =>
    rw [wireBits_of_byteOfWire hb, wireBits, List.getLast?_concat] at h
    exact absurd (Option.some.inj h) (by decide)

/-! ### LTXD (R176, R183) -/

theorem bitAt_eq {e j : Nat} (he : e < 521) (hlow : j * 1000000 ≤ 19200 * e) (hhigh : 19200 * e < (j + 1) * 1000000) :
    bitAt e = j ∧ j < 10 := by
  have hbit : e * 19200 / 1000000 = j := by omega
  refine ⟨?_, by omega⟩
  rw [bitAt, hbit]
  omega

theorem ltxdHigh_rest (h : s.link.tx = none) : ltxdHigh s = true := by
  simp only [ltxdHigh, h]

theorem ltxdHigh_done {f : TxFrame} (h : s.link.tx = some f) (hdue : f.due ≤ s.now) : ltxdHigh s = true := by
  simp only [ltxdHigh, h, decide_eq_true hdue, Bool.true_or]

/-- R183: a moment `e` µs into byte `k` of a frame of `n` bytes that ends at `due`. -/
theorem moment_within_frame {now due n k e : Nat} (hk : k < n) (he : e < 521) (h : now + 521 * n = due + 521 * k + e) :
    ¬ due ≤ now ∧ now + n * 521 - due = 521 * k + e := by
  omega

/-- R176: `e` µs into byte `k` of the frame, LTXD is at the byte's bit of that moment. -/
theorem ltxdHigh_within {f : TxFrame} (h : s.link.tx = some f) {b : Byte} {k e : Nat} (hb : f.bytes[k]? = some b)
    (he : e < 521) (hmoment : s.now + 521 * f.bytes.length = f.due + 521 * k + e) :
    ltxdHigh s = (wireBits b).getD (bitAt e) true := by
  have hk : k < f.bytes.length := (List.getElem?_eq_some_iff.1 hb).1
  obtain ⟨hdue, hinto⟩ := moment_within_frame hk he hmoment
  have hbyte : (521 * k + e) / 521 = k := by omega
  have hrest : (521 * k + e) % 521 = e := by omega
  simp only [ltxdHigh, h, decide_eq_false hdue, Bool.false_or, hinto, hbyte, hrest, List.getD_eq_getElem?_getD, hb,
    Option.getD_some]

/-- Settles O7: the arbiter by what waits, and the line by the byte and the bit of the moment. -/
theorem transmitterArbiter : Obligations.TransmitterArbiter := by
  refine ⟨fun s f hreset htx hf => ?_, fun s => ⟨kickLink_sending, fun htx r rest hreplies => ?_, fun htx hreplies => ?_⟩,
    fun s => ⟨fun htx => ⟨ltxdHigh_rest htx, ?_⟩, fun f htx => ltxdHigh_done htx, ?_⟩,
    fun b => ⟨byteOfWire_wireBits b, fun bits _ => ⟨byteOfWire_low_stop, wireBits_of_byteOfWire⟩⟩⟩
  · rw [linkFrameEnd_due hreset (congrArg (Option.map TxFrame.due) htx), endFrame_plain (s := atMoment f.due s) htx hf]
    rfl
  · obtain ⟨payload, t, hsend, hnow, hrest⟩ := sendReply_sending r { s with link := { s.link with replies := rest } }
    obtain ⟨f, hf, hkind, hdue, hrestart⟩ := sending_tx (replyKindOf r) payload (decide (r = .restart)) t
    rw [kickLink_reply htx hreplies]
    refine ⟨rfl, ?_, f, ?_, hkind, ?_, ?_⟩
    · rw [hsend]
      exact hrest
    · rw [hsend]
      exact hf
    · rw [hdue, hnow]
    · rw [hrestart, decide_eq_true_iff]
  · have hreport := sendReport_sending s
    rw [kickLink_report htx hreplies]
    split
    · next kind hfirst =>
      rw [hfirst] at hreport
      obtain ⟨payload, t, hsend, hnow⟩ := hreport
      rw [hsend, ← hnow]
      exact sending_tx kind payload false t
    · next hfirst =>
      rw [hfirst] at hreport
      exact hreport
  · simp only [ltxdBits, ltxd, htx, List.flatMap_nil]
  · intro f htx b k j e hb he hmoment hlow hhigh
    obtain ⟨hbit, hj⟩ := bitAt_eq he hlow hhigh
    have hhere := wireBits_getElem? b hj
    have hline : ltxdHigh s = if j = 0 then false else if j = 9 then true else b.getLsbD (j - 1) := by
      rw [ltxdHigh_within htx hb he hmoment, hbit, List.getD_eq_getElem?_getD, hhere, Option.getD_some]
    refine ⟨hline, ?_⟩
    rw [hline, ← hhere, ← flatMap_wireBits_getElem? hb hj]
    simp only [ltxdBits, ltxd, htx]

end Sys2Proof.Steps
end

section
/-!
SUPPORT. The end of a row leaves the receiver as it is: of the Link Port its judgements touch the latches, the report flags and
the transmitter alone (R177, R183, R191).
-/

namespace Sys2Proof.Steps

open Sys2Proof.Machine Sys2Proof.Safety Sys2Proof.Laws

variable {s t : State}

/-! ### The latches and the report flags -/

theorem setLatch_receiver (l : Latch) (k : LinkPort) : (k.setLatch l).receiver = k.receiver := by
  unfold LinkPort.setLatch
  split <;> rfl

theorem setLatchIf_receiver (b : Bool) (l : Latch) (s : State) : (setLatchIf b l s).link.receiver = s.link.receiver := by
  cases b with
  | false => rfl
  | true => exact setLatch_receiver l s.link

theorem judgeStarved_receiver (b : Bool) (s : State) : (judgeStarved b s).link.receiver = s.link.receiver :=
  setLatchIf_receiver _ .supplyStarved s

/-! ### The Head Driver -/

theorem stepStart_receiver (b : Bool) (s : State) : (stepStart b s).link.receiver = s.link.receiver := by
  have hjudged (paper starved : Bool) : (setLatchIf paper .paperOut (judgeStarved starved s)).link.receiver = s.link.receiver :=
    (setLatchIf_receiver _ _ _).trans (judgeStarved_receiver _ s)
  unfold stepStart
  dsimp only
  split_ifs
  · exact hjudged _ _
  · exact hjudged _ _
  · rfl

theorem phaseStart_receiver (cfg : HeadConfig) (r : BurnRow) (s : State) :
    (phaseStart cfg r s).link.receiver = s.link.receiver := by
  unfold phaseStart
  dsimp only
  split_ifs
  · exact judgeStarved_receiver _ _
  · exact judgeStarved_receiver _ _
  · rfl

theorem proceed_receiver (s : State) : (proceed s).link.receiver = s.link.receiver := by
  unfold proceed
  split
  · split
    · split
      · rfl
      · split
        · exact phaseStart_receiver _ _ _
        · rfl
    · exact stepStart_receiver _ _
  · exact stepStart_receiver _ _
  · rfl

theorem beginRow_receiver (s : State) : (beginRow s).link.receiver = s.link.receiver := by
  unfold beginRow approach
  split
  · rfl
  · split
    · rfl
    · exact proceed_receiver _

theorem appendEntries_receiver (es : List RowEntry) (s : State) : (appendEntries es s).link.receiver = s.link.receiver := by
  unfold appendEntries
  dsimp only
  split
  · exact beginRow_receiver _
  · rfl

/-! ### The Print Formatter -/

theorem lineAdvance_receiver (s : State) : (lineAdvance s).link.receiver = s.link.receiver := by
  unfold lineAdvance commitOldest
  dsimp only
  split_ifs
  · rfl
  · rfl
  · rfl
  · split
    · rfl
    · exact appendEntries_receiver _ _

theorem putPrintable_receiver (c : Byte) (s : State) : (putPrintable c s).link.receiver = s.link.receiver := by
  unfold putPrintable makeFit
  dsimp only
  split_ifs
  · rfl
  · exact lineAdvance_receiver _
  · rfl

theorem verticalTab_receiver (s : State) : (verticalTab s).link.receiver = s.link.receiver := by
  unfold verticalTab
  split
  · exact setLatch_receiver _ _
  · rfl

theorem carryChar_receiver (c : Byte) (s : State) : (carryChar c s).link.receiver = s.link.receiver :=
  carryChar_cases (P := fun t => t.link.receiver = s.link.receiver) c s (fun _ => putPrintable_receiver c s)
    (fun _ => lineAdvance_receiver s) (fun _ => lineAdvance_receiver _) (verticalTab_receiver s) (fun _ _ => rfl) rfl rfl

theorem carryDirective_receiver (d : Directive) (s : State) : (carryDirective d s).link.receiver = s.link.receiver := by
  cases d with
  | restoreFormat =>
    unfold carryDirective restoreFormat
    dsimp only
    split
    · exact setLatch_receiver _ _
    · rfl
  | _ => rfl

theorem takeItem_receiver (o : Owner) (it : Item) (s : State) : (takeItem o it s).link.receiver = s.link.receiver := by
  cases it with
  | char c => exact carryChar_receiver c _
  | directive d => exact carryDirective_receiver d _

theorem takePtq_receiver (s : State) : (takePtq s).link.receiver = s.link.receiver := by
  unfold takePtq
  split
  · rfl
  · rw [takeItem_receiver]
    unfold checkPtqRoom
    split <;> rfl

/-! ### The Traffic Router -/

theorem judgeHold_receiver (s : State) : (judgeHold s).link.receiver = s.link.receiver := by
  unfold judgeHold
  split_ifs <;> rfl

theorem removeHead_receiver (src : Source) (s : State) : (removeHead src s).link.receiver = s.link.receiver := by
  cases src with
  | rx => exact judgeHold_receiver _
  | key => rfl
  | stq =>
    simp only [removeHead, checkStqRoom]
    split <;> rfl

theorem takeSource_receiver (src : Source) (s : State) : (takeSource src s).link.receiver = s.link.receiver := by
  unfold takeSource
  split
  · rfl
  · dsimp only
    split
    · exact (takeItem_receiver _ _ _).trans (removeHead_receiver src s)
    · exact removeHead_receiver src s

theorem takeOwned_receiver (s : State) : (takeOwned s).link.receiver = s.link.receiver := by
  unfold takeOwned
  split
  · rfl
  · exact takeSource_receiver _ s
  · split
    · exact takeItem_receiver _ _ _
    · exact takeSource_receiver _ s
  · exact takeSource_receiver _ s
  · exact takePtq_receiver s

/-! ### The end of a row -/

theorem endStall_receiver (s : State) : (endStall s).link.receiver = s.link.receiver := by
  unfold endStall
  split
  · split
    · rfl
    · split_ifs
      · exact takeOwned_receiver s
      · rfl
      · rfl
  · rfl

theorem judgeFormatter_receiver (s : State) : (judgeFormatter s).link.receiver = s.link.receiver := by
  obtain ⟨o, l, hgrant⟩ := grant_touches (endStall s)
  obtain ⟨a, l', f, hstall⟩ := beginStall_touches (grant (endStall s))
  rw [judgeFormatter, hstall, hgrant]
  exact endStall_receiver s

theorem kickLink_receiver (s : State) : (kickLink s).link.receiver = s.link.receiver := by
  unfold kickLink
  split
  · rfl
  · split
    · next r _ _ => cases r <;> rfl
    · unfold sendReport
      split_ifs <;> rfl

theorem settleRow_receiver (s : State) : (settleRow s).link.receiver = s.link.receiver := by
  rw [settleRow, judgeFormatter_receiver, kickLink_receiver, judgeFormatter_receiver, settleTone_link]

end Sys2Proof.Steps
end

section
/-!
O52: the bytes of a frame, one after another, bring the receiver to its check byte (R177, R178, R179, R182).
-/

namespace Sys2Proof.Steps

open Sys2Proof.Machine Sys2Proof.Safety Sys2Proof.Laws

variable {s : State} {isReady : Bool} {bytes : List Byte} {waiting : List Instr} {moment dt : Micros}

/-- R177: outside a reset, at a moment and with some rows still waiting, the receiver is inside a frame with these bytes. -/
structure Receiving (isReady : Bool) (bytes : List Byte) (waiting : List Instr) (moment : Micros) (s : State) : Prop where
  resetting : s.resetting = none
  receiver : s.link.receiver = .inside isReady bytes
  pending : s.pending = waiting
  now : s.now = moment

theorem Receiving.settled (h : Receiving isReady bytes waiting moment s) :
    Receiving isReady bytes waiting moment (settleRow s) := by
  obtain ⟨g, r, f, d, u, k, q, b, e⟩ := settleRow_touches s
  have hreceiver := settleRow_receiver s
  rw [e] at hreceiver ⊢
  exact ⟨h.resetting, hreceiver.trans h.receiver, h.pending, h.now⟩

theorem step_of_pending {i : Instr} {rest : List Instr} (h : s.pending = i :: rest) :
    step s = exec i { s with pending := rest } := by
  simp only [step, h]

theorem stepsTo_of_step {t : State} (h : step s = .next t) (n : Nat) : stepsTo (n + 1) s = stepsTo n t := by
  simp only [stepsTo, h]

/-- R177, R182: a lead byte opens a frame, ready as LRDY is high. -/
theorem step_leadByte (hreset : s.resetting = none) (hout : s.link.receiver = .outside)
    (h : s.pending = .leadByte dt :: waiting) : ∃ t, step s = .next t ∧ Receiving (lrdy s) [] waiting (s.now + dt) t := by
  have hexec := leadByte_running (dt := dt) (s := { s with pending := waiting }) hreset
  rw [openFrame_outside (s := after dt { s with pending := waiting }) hout] at hexec
  exact ⟨_, (step_of_pending h).trans hexec, Receiving.settled ⟨hreset, rfl, rfl, rfl⟩⟩

/-- R177: a byte that fits is collected. -/
theorem step_frameByte {b : Byte} (h : Receiving isReady bytes (.frameByteReceived dt b :: waiting) moment s)
    (hfits : frameByteFits bytes b = true) :
    ∃ t, step s = .next t ∧ Receiving isReady (bytes ++ [b]) waiting (moment + dt) t := by
  have hexec := frameByteReceived_running (dt := dt) (s := { s with pending := waiting }) b h.resetting
  rw [collectByte_fits (s := after dt { s with pending := waiting }) h.receiver hfits] at hexec
  exact ⟨_, (step_of_pending h.pending).trans hexec,
    Receiving.settled ⟨h.resetting, rfl, rfl, congrArg (· + dt) h.now⟩⟩

/-- R177: each of the bytes `more` fits behind those before it. -/
def FitAfter : List Byte → List Byte → Prop
  | _, [] => True
  | bytes, b :: more => frameByteFits bytes b = true ∧ FitAfter (bytes ++ [b]) more

/-- R177: payload bytes fit as long as they are owed. -/
theorem fitAfter_payload {kind len : Byte} {got more : List Byte} (h : got.length + more.length ≤ len.toNat) :
    FitAfter (kind :: len :: got) more := by
  induction more generalizing got with
  | nil => trivial
  | cons b more ih =>
    rw [List.length_cons] at h
    refine ⟨decide_eq_true (by omega), ih (got := got ++ [b]) ?_⟩
    rw [List.length_append, List.length_singleton]
    omega

/-- R177: the bytes of a frame of at most 40 bytes of payload fit in their order. -/
theorem fitAfter_frame (kind : Byte) {p : List Byte} (h : p.length ≤ 40) :
    FitAfter [] (kind :: BitVec.ofNat 8 p.length :: p) := by
  have hlen : (BitVec.ofNat 8 p.length).toNat = p.length := by
    rw [BitVec.toNat_ofNat]
    omega
  refine ⟨rfl, decide_eq_true (by omega), fitAfter_payload (got := []) ?_⟩
  rw [hlen, List.length_nil, Nat.zero_add]

/-- Bytes that fit are collected one step after another, and their times add up. -/
theorem stepsTo_frameBytes {more : List (Micros × Byte)} (hfit : FitAfter bytes (more.map Prod.snd))
    (h : Receiving isReady bytes (more.map (fun b => .frameByteReceived b.1 b.2) ++ waiting) moment s) :
    ∃ t, stepsTo more.length s = some t
      ∧ Receiving isReady (bytes ++ more.map Prod.snd) waiting (moment + (more.map Prod.fst).sum) t := by
  induction more generalizing bytes moment s with
  | nil => exact ⟨s, rfl, by simpa using h⟩
  | cons b more ih =>
    obtain ⟨hb, hmore⟩ := hfit
    obtain ⟨u, hstep, hu⟩ := step_frameByte h hb
    obtain ⟨t, hsteps, ht⟩ := ih hmore hu
    refine ⟨t, (stepsTo_of_step hstep _).trans hsteps, ?_⟩
    simpa only [List.map_cons, List.sum_cons, List.append_assoc, List.singleton_append, Nat.add_assoc] using ht

/-- Settles O52: the lead byte opens the frame, and each byte after it fits. -/
theorem frameBytesMakeACommand : Obligations.FrameBytesMakeACommand := by
  intro s dt bytes kind p rest hreset hout hp _ hbytes hpending
  obtain ⟨u, hstep, hu⟩ := step_leadByte hreset hout hpending
  obtain ⟨t, hsteps, ht⟩ := stepsTo_frameBytes (hbytes ▸ fitAfter_frame kind hp) hu
  rw [List.nil_append, hbytes] at ht
  refine ⟨t, ?_, ht.pending, ht.now, fun hready => ⟨ht.resetting, .inr ?_⟩, fun hunready => ⟨ht.resetting, .inr ?_⟩⟩
  · rw [Nat.add_comm, stepsTo_of_step hstep, hsteps]
  · rw [ht.receiver, hready]
  · rw [ht.receiver, hunready]

end Sys2Proof.Steps
end

section
/-!
SUPPORT. Time and the waiting commands: the operations inside a row leave both as they are, and those of the line's own moments
only move time on (log 1, log 2).
-/

namespace Sys2Proof.Steps

open Sys2Proof.Machine Sys2Proof.Safety Sys2Proof.Laws

variable {s t : State}

/-- The two fields that are the model's own: the moment and the waiting commands (log 1, log 2). -/
def clock (s : State) : Micros × List Instr := (s.now, s.pending)

/-- From `s` to `t` the waiting commands stand, and time has not gone back. -/
structure Forward (s t : State) : Prop where
  pending : t.pending = s.pending
  now : s.now ≤ t.now

theorem Forward.of_clock (h : clock t = clock s) : Forward s t :=
  ⟨(Prod.mk.inj h).2, (Prod.mk.inj h).1.ge⟩

theorem Forward.after {dt : Micros} (h : clock t = clock (after dt s)) : Forward s t :=
  ⟨(Prod.mk.inj h).2, (Nat.le_add_right _ _).trans (Prod.mk.inj h).1.ge⟩

theorem Forward.atMoment {due : Micros} (h : clock t = clock (atMoment due s)) : Forward s t :=
  ⟨(Prod.mk.inj h).2, (Nat.le_max_left _ _).trans (Prod.mk.inj h).1.ge⟩

/-! ### The end of a row -/

theorem settleRow_clock (s : State) : clock (settleRow s) = clock s := by
  obtain ⟨g, r, f, h, u, k, q, b, e⟩ := settleRow_touches s
  rw [e]; rfl

theorem Forward.settled (h : Forward s t) : Forward s (settleRow t) := by
  obtain ⟨hnow, hpending⟩ := Prod.mk.inj (settleRow_clock t)
  exact ⟨hpending.trans h.pending, h.now.trans hnow.ge⟩

/-! ### The Head Driver and the Supply Monitor -/

theorem proceed_clock (s : State) : clock (proceed s) = clock s := by
  obtain ⟨h, u, k, e⟩ := proceed_touches s
  rw [e]; rfl

theorem stepStart_clock (b : Bool) (s : State) : clock (stepStart b s) = clock s := by
  obtain ⟨h, u, k, e⟩ := stepStart_touches s b
  rw [e]; rfl

theorem phaseStart_clock (cfg : HeadConfig) (r : BurnRow) (s : State) : clock (phaseStart cfg r s) = clock s := by
  obtain ⟨h, u, k, e⟩ := phaseStart_touches s cfg r
  rw [e]; rfl

theorem beginRow_clock (s : State) : clock (beginRow s) = clock s := by
  obtain ⟨h, u, k, e⟩ := beginRow_touches s
  rw [e]; rfl

theorem endRow_clock (s : State) : clock (endRow s) = clock s := by
  obtain ⟨h, u, k, e⟩ := endRow_touches s
  rw [e]; rfl

theorem appendEntries_clock (es : List RowEntry) (s : State) : clock (appendEntries es s) = clock s := by
  obtain ⟨h, u, k, e⟩ := appendEntries_touches s es
  rw [e]; rfl

theorem removeReasons_clock (r : Reasons) (s : State) : clock (removeReasons r s) = clock s := by
  obtain ⟨h, u, k, e⟩ := removeReasons_touches s r
  rw [e]; rfl

theorem endConversion_clock (code : Byte) (s : State) : clock (endConversion code s) = clock s := by
  obtain ⟨h, u, k, e⟩ := endConversion_touches s code
  rw [e]; rfl

theorem forPhase_clock {f : Phase → State → State} (h : ∀ p s, clock (f p s) = clock s) (s : State) :
    clock (forPhase f s) = clock s := by
  unfold forPhase
  split
  · rfl
  · exact h _ s

theorem endPulse_clock (p : Phase) (s : State) : clock (endPulse p s) = clock s := by
  unfold endPulse
  dsimp only
  split
  · split
    · exact stepStart_clock _ _
    · split
      · exact phaseStart_clock _ _ _
      · rfl
  · rfl

theorem endStep_clock (s : State) : clock (endStep s) = clock s := by
  unfold endStep
  dsimp only
  split
  · exact endRow_clock _
  · split
    · exact endRow_clock _
    · exact stepStart_clock _ _
  · rfl

theorem endSettle_clock (s : State) : clock (endSettle s) = clock s := by
  unfold endSettle
  dsimp only
  split
  · exact proceed_clock _
  · rfl

/-! ### The Print Formatter -/

theorem takePtq_clock (s : State) : clock (takePtq s) = clock s := by
  obtain ⟨f, h, u, k, b, e⟩ := takePtq_touches s
  rw [e]; rfl

theorem takeKeyFeed_clock (s : State) : clock (takeKeyFeed s) = clock s := by
  obtain ⟨f, h, u, k, b, e⟩ := takeKeyFeed_touches s
  rw [e]; rfl

theorem checkPtqRoom_clock (s : State) : clock (checkPtqRoom s) = clock s := by
  obtain ⟨w, k, e⟩ := checkPtqRoom_touches s
  rw [e]; rfl

theorem grant_clock (s : State) : clock (grant s) = clock s := by
  obtain ⟨o, l, e⟩ := grant_touches s
  rw [e]; rfl

theorem commitOldest_clock (s : State) : clock (commitOldest s) = clock s := by
  obtain ⟨f, h, u, k, e⟩ := commitOldest_touches s
  rw [e]; rfl

theorem formatterTake_clock (s : State) : clock (formatterTake s) = clock s := by
  unfold formatterTake
  dsimp only
  split_ifs
  · rfl
  · split
    · rfl
    · split_ifs
      · exact (takePtq_clock _).trans (grant_clock s)
      · rfl
  · exact (takeKeyFeed_clock _).trans (grant_clock s)
  · rfl
  · rfl

theorem endFlushTimer_clock (s : State) : clock (endFlushTimer s) = clock s := by
  unfold endFlushTimer
  dsimp only
  split <;> rfl

theorem lastCommitted_clock (d : Drain) (s : State) : clock (lastCommitted d s) = clock s := by
  cases d with
  | flush column => rfl
  | formFeed entries => simp only [lastCommitted]; split <;> rfl
  | feed rows committed => rfl

theorem drainCommit_clock (s : State) : clock (drainCommit s) = clock s := by
  unfold drainCommit
  split
  · split
    · dsimp only
      split
      · exact (lastCommitted_clock _ _).trans (commitOldest_clock s)
      · exact commitOldest_clock s
    · rfl
  · rfl

theorem formFeedAppend_clock (s : State) : clock (formFeedAppend s) = clock s := by
  unfold formFeedAppend
  split
  · split
    · dsimp only
      split
      · exact appendEntries_clock _ _
      · exact appendEntries_clock _ _
    · rfl
  · rfl

theorem feedAppend_clock (s : State) : clock (feedAppend s) = clock s := by
  unfold feedAppend
  split
  · split
    · exact appendEntries_clock _ s
    · rfl
  · rfl

/-! ### The Traffic Router and the connection -/

theorem judgeHold_clock (s : State) : clock (judgeHold s) = clock s := by
  obtain ⟨h, f, k, e⟩ := judgeHold_touches s
  rw [e]; rfl

theorem takeIfReady_clock (src : Source) (s : State) : clock (takeIfReady src s) = clock s := by
  obtain ⟨r, f, h, u, k, q, b, e⟩ := takeSource_touches s src
  unfold takeIfReady
  split
  · rw [e]; rfl
  · rfl

theorem arrive_clock (c : RxChar) (s : State) : clock (arrive c s) = clock s := by
  obtain ⟨r, k, e⟩ := arrive_touches s c
  rw [e]; rfl

theorem changeConn_clock (new : Conn) (s : State) : clock (changeConn new s) = clock s := by
  obtain ⟨g, h, f, k, e⟩ := changeConn_touches s new
  rw [e]; rfl

theorem enterIdle_clock (s : State) : clock (enterIdle s) = clock s := by
  obtain ⟨c, g, m, r, k, e⟩ := enterIdle_touches s
  rw [e]; rfl

theorem onPresent_clock (s : State) : clock (onPresent s) = clock s := by
  unfold onPresent
  split
  · exact changeConn_clock _ s
  · exact changeConn_clock _ s
  · exact changeConn_clock _ s
  all_goals rfl

theorem onAbsent_clock (s : State) : clock (onAbsent s) = clock s := by
  unfold onAbsent
  split
  · exact changeConn_clock _ s
  all_goals rfl

theorem endWindow_clock (s : State) : clock (endWindow s) = clock s := by
  unfold endWindow
  dsimp only
  split
  · rfl
  · exact onPresent_clock _
  · exact onAbsent_clock _

theorem endSettleTimer_clock (s : State) : clock (endSettleTimer s) = clock s := by
  unfold endSettleTimer
  split <;> exact changeConn_clock _ s

theorem closeCall_clock (s : State) : clock (closeCall s) = clock s := by
  unfold closeCall
  split
  · exact changeConn_clock _ s
  · exact changeConn_clock _ s
  · exact enterIdle_clock s
  · exact enterIdle_clock s
  · exact enterIdle_clock s
  all_goals rfl

theorem setLoop_clock (loop : LoopMode) (s : State) : ∀ t ∈ setLoop loop s, clock t = clock s := by
  unfold setLoop
  split
  · rintro _ ⟨rfl⟩; exact changeConn_clock _ _
  · rintro _ ⟨rfl⟩; exact changeConn_clock _ _
  · rintro _ ⟨rfl⟩; exact enterIdle_clock _
  · rintro _ ⟨rfl⟩; rfl
  · rintro _ ⟨rfl⟩; rfl
  · rintro _ ⟨rfl⟩; rfl
  · rintro _ ⟨rfl⟩; rfl
  · simp

theorem setFlow_clock (x : FlowSettings) (s : State) : clock (setFlow x s) = clock s := by
  unfold setFlow
  dsimp only
  split_ifs
  · rfl
  · exact judgeHold_clock _
  · unfold turnFlowOff
    dsimp only
    split <;> rfl

/-! ### The signal path, whose rows come at moments of their own -/

theorem finishChar_clock (c : RxChar) (spoiled : Bool) (s : State) : clock (finishChar c spoiled s) = clock s := by
  unfold finishChar
  split
  · exact arrive_clock c _
  · rfl

theorem lastCentre_clock (edge : Micros) (cells : List Bool) (spoiled : Bool) (s : State) :
    clock (lastCentre edge cells spoiled s) = clock s := by
  unfold lastCentre
  dsimp only
  split
  · rfl
  · exact finishChar_clock _ _ _

theorem characterFinished_forward (s : State) : Forward s (characterFinished s) := by
  unfold characterFinished
  split
  · split
    · exact .atMoment (lastCentre_clock _ _ _ _)
    · exact .of_clock rfl
  · split
    · exact .of_clock (finishChar_clock _ _ _)
    · exact .of_clock rfl
  · exact .of_clock rfl

theorem centreReached_forward (s : State) : Forward s (centreReached s) := by
  unfold centreReached
  split
  · split
    · exact .atMoment rfl
    · exact .of_clock rfl
  · exact .of_clock rfl

theorem breakReceived_clock (spoiled : Bool) (s : State) : clock (breakReceived spoiled s) = clock s := by
  unfold breakReceived
  dsimp only
  split <;> rfl

theorem breakWatchEnd_forward (s : State) : Forward s (breakWatchEnd s) := by
  unfold breakWatchEnd
  split
  · split
    · exact .of_clock rfl
    · exact .atMoment (breakReceived_clock _ _)
  · exact .of_clock rfl

theorem crossing_clock (at0 : Nat) (s : State) : clock (crossing at0 s) = clock s := by
  unfold crossing
  dsimp only
  split <;> rfl

theorem inputCrossing_forward (dt : Micros) (s : State) : Forward s (inputCrossing dt s) := by
  unfold inputCrossing ownCrossing
  split
  · split
    · exact .of_clock rfl
    · exact .atMoment (crossing_clock _ _)
  · exact .after (crossing_clock _ _)

theorem framerTake_clock (s : State) : clock (framerTake s) = clock s := by
  unfold framerTake
  split
  · split
    · rfl
    · split
      · split <;> rfl
      · rfl
  · rfl

theorem cellBoundary_forward (s : State) : Forward s (cellBoundary s) := by
  unfold cellBoundary
  split
  · split
    · exact .atMoment rfl
    · exact .of_clock rfl
  · exact .of_clock rfl

theorem characterEnd_clock (c : FramedChar) (s : State) : clock (characterEnd c s) = clock s := by
  unfold characterEnd
  dsimp only
  split
  · exact arrive_clock _ _
  · rfl

theorem framerCharacterEnd_forward (s : State) : Forward s (framerCharacterEnd s) := by
  unfold framerCharacterEnd
  split
  · split
    · exact .atMoment (characterEnd_clock _ _)
    · exact .of_clock rfl
  · exact .of_clock rfl

/-! ### The keyboard -/

theorem offerKey_clock (c : KeyChar) (s : State) : clock (offerKey c s) = clock s := by
  unfold offerKey
  split <;> rfl

theorem actEntry_clock (e : KeyEntry) (s : State) : clock (actEntry e s) = clock s := by
  unfold actEntry keyAction
  split
  · exact offerKey_clock _ s
  · split
    · split <;> rfl
    · rfl
    · exact judgeHold_clock _
  · rfl
  · rfl

theorem keyDown_clock (p : Nat) (s : State) : clock (keyDown p s) = clock s := by
  unfold keyDown
  split
  · rfl
  · split
    · rfl
    · exact actEntry_clock _ _

theorem handleEdges_clock (ups downs : List Nat) (s : State) : clock (handleEdges ups downs s) = clock s := by
  unfold handleEdges
  refine foldl_keeps (P := fun t : State => clock t = clock s) (fun t p ht => (keyDown_clock p t).trans ht) _ _ ?_
  simp only [clock]

theorem scanReading_clock (closed : List Nat) (s : State) : clock (scanReading closed s) = clock s := by
  unfold scanReading
  dsimp only
  split
  · rfl
  · exact handleEdges_clock _ _ _

theorem endRepeat_clock (s : State) : clock (endRepeat s) = clock s := by
  unfold endRepeat
  dsimp only
  split
  · split
    · exact offerKey_clock _ _
    · rfl
  · rfl

/-! ### The message link -/

theorem complete_clock (kind : Byte) (p : List Byte) {act : State → State × Reply}
    (hact : ∀ u, clock (act u).1 = clock u) (s : State) : clock (complete kind p act s) = clock s := by
  rcases complete_cases (kind := kind) (p := p) act s with e | e | ⟨-, e⟩ <;> rw [e]
  · rfl
  · exact hact (closeFrame s)

theorem rejectUnknown_clock (kind : Byte) (p : List Byte) (s : State) : clock (rejectUnknown kind p s) = clock s := by
  unfold rejectUnknown
  split
  · rfl
  · exact complete_clock kind p (fun _ => rfl) s

theorem rejectCheck_clock (kind : Byte) (p : List Byte) (check : Byte) (s : State) :
    clock (rejectCheck kind p check s) = clock s := by
  unfold rejectCheck
  split
  · rfl
  · exact complete_clock kind p (fun _ => rfl) s

theorem countStray_clock (b : Byte) (s : State) : clock (countStray b s) = clock s := by
  unfold countStray
  split
  · split <;> rfl
  · rfl

theorem openFrame_clock (s : State) : clock (openFrame s) = clock s := by
  unfold openFrame
  split <;> rfl

theorem longLength_clock (b : Byte) (s : State) : clock (longLength b s) = clock s := by
  unfold longLength endByLength
  split
  · split <;> rfl
  · rfl

theorem endUnready_clock (s : State) : clock (endUnready s) = clock s := by
  unfold endUnready
  split
  · rfl
  · split <;> rfl
  · rfl

theorem tearFrame_clock (s : State) : clock (tearFrame s) = clock s := by
  unfold tearFrame
  split <;> rfl

theorem collectByte_clock (b : Byte) (s : State) : clock (collectByte b s) = clock s := by
  unfold collectByte
  split
  · split <;> rfl
  · rfl

theorem endFrame_clock (s : State) : clock (endFrame s) = clock s := by
  unfold endFrame endTxFrame
  split
  · rfl
  · dsimp only
    split <;> rfl

/-! ### Commands -/

/-- R180: a command refused at its judgement changes nothing. -/
theorem answer_clock {α : Type} (kind : Byte) (read : Except Reason α) {act : α → State → State × Reply}
    (h : ∀ x s, clock (act x s).1 = clock s) (s : State) : clock (answer kind read act s).1 = clock s := by
  cases read with
  | error reason => rfl
  | ok x => exact h x s

theorem setHead_clock (p : List Byte) (s : State) : clock (actSetHead p s).1 = clock s :=
  answer_clock 0x08 (judgeHead p s) (act := fun x s => (configureHead x.1 s, doneOr 0x08 x.2))
    (fun _ _ => beginRow_clock _) s

theorem placeDirective_clock (kind : Byte) (b : Bool) (d : Directive) (s : State) :
    clock (placeDirective kind b d s).1 = clock s := by
  unfold placeDirective
  split <;> rfl

theorem setLine_clock (p : List Byte) (s : State) : clock (actSetLine p s).1 = clock s := by
  refine answer_clock _ _ (fun x s => ?_) s
  dsimp only
  split <;> rfl

theorem connect_clock (p : List Byte) (s : State) : clock (actConnect p s).1 = clock s := by
  refine answer_clock _ _ (fun role s => ?_) s
  split
  · exact changeConn_clock _ _
  · rfl

theorem break_clock (p : List Byte) (s : State) : clock (actBreak p s).1 = clock s := by
  refine answer_clock _ _ (fun _ s => ?_) s
  split <;> rfl

theorem actSetLoop_clock (p : List Byte) (s : State) : clock (actSetLoop p s).1 = clock s := by
  refine answer_clock _ _ (fun loop s => ?_) s
  split
  · next t ht => exact setLoop_clock loop s t ht
  · rfl

theorem clearQueue_clock (p : List Byte) (s : State) : clock (actClearQueue p s).1 = clock s := by
  refine answer_clock _ _ (fun q s => ?_) s
  cases q with
  | stq =>
    show clock (checkStqRoom _) = _
    unfold checkStqRoom
    split <;> rfl
  | ptq => exact checkPtqRoom_clock _
  | key => rfl

end Sys2Proof.Steps
end

section
/-!
O2: every row goes on, with the waiting commands as they were and time not gone back (R180, R191, R194, log 3, log 15).
-/

namespace Sys2Proof.Steps

open Sys2Proof.Machine Sys2Proof.Safety Sys2Proof.Laws

variable {s : State}

/-- A row that answers a next state, with the waiting commands as they were and time not gone back. -/
def RowGoesOn (s : State) (o : Host.Outcome State Fault Refusal) : Prop := ∃ t, o = .next t ∧ Forward s t

theorem row_goesOn {f : State → State} (h : Forward s (f s)) : RowGoesOn s (row f s) := by
  rcases row_cases f s with ⟨-, e⟩ | ⟨-, e⟩
  · exact ⟨s, e, .of_clock rfl⟩
  · exact ⟨_, e, h.settled⟩

/-- The rows whose sender tells the time since the row before. -/
theorem row_after_goesOn {f : State → State} (dt : Micros) (h : ∀ u, clock (f u) = clock u) :
    RowGoesOn s (row (fun s => f (after dt s)) s) :=
  row_goesOn (.after (h _))

theorem timerRow_goesOn {timer : State → Timer} {f : State → State} (h : ∀ u, clock (f u) = clock u) :
    RowGoesOn s (timerRow timer f s) := by
  rcases timerRow_cases timer f s with e | ⟨due, -, -, e⟩
  · exact ⟨s, e, .of_clock rfl⟩
  · exact ⟨_, e, (Forward.atMoment (h _)).settled⟩

theorem commandRow_goesOn {kind : Byte} {dt : Micros} {p : List Byte} {act : State → State × Reply}
    (h : ∀ u, clock (act u).1 = clock u) : RowGoesOn s (commandRow kind dt p act s) :=
  row_after_goesOn dt (complete_clock kind p h)

/-- R194: the end of a reset. -/
theorem resetEnd_goesOn (dt : Micros) (s : State) : RowGoesOn s (execResetEnd dt s) := by
  have hmoment : Forward s (resetMoment dt s) := by
    unfold resetMoment
    split
    · exact .atMoment rfl
    · exact .after rfl
  unfold execResetEnd
  split
  · exact ⟨s, rfl, .of_clock rfl⟩
  · next cause _ =>
    have hend : Forward s (endReset cause (resetMoment dt s)) := ⟨hmoment.pending, hmoment.now⟩
    exact ⟨_, rfl, hend.settled⟩

theorem paperSensorChange_goesOn (dt : Micros) (s : State) : RowGoesOn s (execPaperSensorChange dt s) := by
  unfold execPaperSensorChange
  split
  · exact ⟨_, rfl, .after rfl⟩
  · exact row_after_goesOn dt fun _ => rfl

theorem exec_goesOn (i : Instr) (s : State) : RowGoesOn s (exec i s) := by
  cases i <;> dsimp only [exec]
  case identify dt p => exact commandRow_goesOn (answer_clock _ _ fun _ _ => rfl)
  case restart dt p => exact commandRow_goesOn (answer_clock _ _ fun _ _ => rfl)
  case readConditions dt p => exact commandRow_goesOn (answer_clock _ _ fun _ _ => rfl)
  case readStatus dt p => exact commandRow_goesOn (answer_clock _ _ fun _ _ => rfl)
  case setReports dt p => exact commandRow_goesOn (answer_clock _ _ fun _ _ => rfl)
  case setHead dt p => exact commandRow_goesOn (setHead_clock p)
  case setDensity dt p => exact commandRow_goesOn (answer_clock _ _ fun _ _ => rfl)
  case printText dt p => exact commandRow_goesOn (answer_clock _ _ fun _ _ => rfl)
  case setFormat dt p => exact commandRow_goesOn (answer_clock _ _ fun _ => placeDirective_clock _ _ _)
  case saveFormat dt p => exact commandRow_goesOn (answer_clock _ _ fun _ => placeDirective_clock _ _ _)
  case restoreFormat dt p => exact commandRow_goesOn (answer_clock _ _ fun _ => placeDirective_clock _ _ _)
  case feed dt p => exact commandRow_goesOn (answer_clock _ _ fun _ => placeDirective_clock _ _ _)
  case loadGlyph dt p => exact commandRow_goesOn (answer_clock _ _ fun _ _ => rfl)
  case setLine dt p => exact commandRow_goesOn (setLine_clock p)
  case setCarrier dt p => exact commandRow_goesOn (answer_clock _ _ fun _ _ => rfl)
  case connect dt p => exact commandRow_goesOn (connect_clock p)
  case disconnect dt p => exact commandRow_goesOn (answer_clock _ _ fun _ => closeCall_clock)
  case sendBreak dt p => exact commandRow_goesOn (break_clock p)
  case setLoop dt p => exact commandRow_goesOn (actSetLoop_clock p)
  case setKeys dt p => exact commandRow_goesOn (answer_clock _ _ fun _ _ => rfl)
  case loadKeymap dt p => exact commandRow_goesOn (answer_clock _ _ fun _ _ => rfl)
  case sendText dt p => exact commandRow_goesOn (answer_clock _ _ fun _ _ => rfl)
  case setRoutes dt p => exact commandRow_goesOn (answer_clock _ _ fun _ _ => rfl)
  case setFlow dt p => exact commandRow_goesOn (answer_clock _ _ fun x => setFlow_clock x.1)
  case clearQueue dt p => exact commandRow_goesOn (clearQueue_clock p)
  case unknownKindFrame dt kind p => exact row_after_goesOn dt (rejectUnknown_clock kind p)
  case strayByte dt b => exact row_after_goesOn dt (countStray_clock b)
  case leadByte dt => exact row_after_goesOn dt openFrame_clock
  case lengthByteAbove40 dt b => exact row_after_goesOn dt (longLength_clock b)
  case unreadyFrame dt => exact row_after_goesOn dt endUnready_clock
  case gapTimerExpiry => exact timerRow_goesOn tearFrame_clock
  case linkFrameEnd => exact timerRow_goesOn endFrame_clock
  case powerUpReset dt => exact ⟨_, rfl, .after rfl⟩
  case generalResetFromPin dt => exact ⟨_, rfl, .after rfl⟩
  case resetEnd dt => exact resetEnd_goesOn dt s
  case energizingTimerExpiry => exact timerRow_goesOn (f := endEnergizing) fun _ => proceed_clock _
  case holdTimerExpiry => exact timerRow_goesOn fun _ => rfl
  case loadingEnd => exact timerRow_goesOn (forPhase_clock fun _ _ => rfl)
  case pulseEnd => exact timerRow_goesOn (forPhase_clock endPulse_clock)
  case stepEnd => exact timerRow_goesOn endStep_clock
  case settlePeriodEnd => exact timerRow_goesOn endSettle_clock
  case paperSensorChange dt => exact paperSensorChange_goesOn dt s
  case paperPresentTimerExpiry => exact timerRow_goesOn (f := endPaperTimer) fun _ => removeReasons_clock _ _
  case converterReading code => exact timerRow_goesOn (endConversion_clock code)
  case formatterTakeItem => exact row_goesOn (.of_clock (formatterTake_clock s))
  case lapseTimerExpiry => exact timerRow_goesOn fun _ => rfl
  case flushTimerExpiry => exact timerRow_goesOn endFlushTimer_clock
  case drainCommit => exact row_goesOn (.of_clock (drainCommit_clock s))
  case formFeedEntryAppend => exact row_goesOn (.of_clock (formFeedAppend_clock s))
  case feedEntryAppend => exact row_goesOn (.of_clock (feedAppend_clock s))
  case halfPeriodEnd dt => exact row_goesOn (inputCrossing_forward dt s)
  case characterFinished => exact row_goesOn (characterFinished_forward s)
  case breakWatchEnd => exact row_goesOn (breakWatchEnd_forward s)
  case framerTake => exact row_goesOn (.of_clock (framerTake_clock s))
  case framerCharacterEnd => exact row_goesOn (framerCharacterEnd_forward s)
  case breakTimerExpiry => exact timerRow_goesOn fun _ => rfl
  case breakMarkEnd => exact timerRow_goesOn fun _ => rfl
  case carrierWindowEnd => exact timerRow_goesOn endWindow_clock
  case connectTimerExpiry => exact timerRow_goesOn (f := endConnectTimer) enterIdle_clock
  case settleTimerExpiry => exact timerRow_goesOn endSettleTimer_clock
  case dropoutTimerExpiry => exact timerRow_goesOn (f := endDropoutTimer) enterIdle_clock
  case clearingTimerExpiry => exact timerRow_goesOn enterIdle_clock
  case remoteHoldTimerExpiry => exact timerRow_goesOn fun _ => rfl
  case routerTake src => exact row_goesOn (.of_clock (takeIfReady_clock src s))
  case scanReading closed => exact timerRow_goesOn (scanReading_clock closed)
  case repeatTimerExpiry => exact timerRow_goesOn endRepeat_clock
  case beeperEndTime => exact timerRow_goesOn fun _ => rfl
  case cellCentre => exact row_goesOn (centreReached_forward s)
  case cellBoundary => exact row_goesOn (cellBoundary_forward s)
  case frameByteReceived dt b => exact row_after_goesOn dt (collectByte_clock b)
  case wrongCheckByte dt kind p check => exact row_after_goesOn dt (rejectCheck_clock kind p check)

/-- Settles O2: row by row, a row either changes nothing or makes its effect and the judgements of its end. -/
theorem everyRowGoesOn : Obligations.EveryRowGoesOn := by
  intro i s
  obtain ⟨t, hexec, hforward⟩ := exec_goesOn i s
  exact ⟨t, hexec, hforward.pending, hforward.now⟩

end Sys2Proof.Steps
end

section
/-!
O10, O11, O12: the resets take effect, hold every block, and end (R194, R196, log 8, log 15).
-/

namespace Sys2Proof.Steps

open Sys2Proof.Machine Sys2Proof.Safety Sys2Proof.Laws

variable {r s t : State} {at0 : Micros} {cause : Cause} {cfg : Option HeadConfig} {ends : Timer}

/-! ### The end of a row on a part at rest (log 5, log 6) -/

/-- What the judgements at a row's end look at is as a reset leaves it: the connection is IDLE, and no character, key or item
waits for the formatter. -/
structure AtRest (s : State) : Prop where
  tone : s.tone = .reset
  fmt : s.fmt = .reset
  conn : s.conn = .reset
  router : s.router = .reset
  keys : s.keys.queue = []

theorem settleTone_atRest (h : AtRest s) : settleTone s = s := by
  have hwanted : wantedTone s = .silent := by simp only [wantedTone, h.conn, Conn.reset]
  have hsame : s.tone.change (wantedTone s) (txChannel s.conn) s.now = s.tone :=
    change_same (by rw [hwanted, h.tone, ToneGen.reset]) _ _
  rw [settleTone, hsame]

/-- R49: no source contends. -/
theorem grantee_atRest (h : AtRest s) : grantee s = .none := by
  have hrx : ¬ rxContends s = true := fun e => ((rxContends_iff s).1 e).1 (by rw [h.router]; rfl)
  have hkey : ¬ keyContends s = true := fun e => by
    rcases (keyContends_iff s).1 e with hfeed | hkey
    · simp [h.fmt, Formatter.reset] at hfeed
    · exact hkey.1 h.keys
  have hstq : ¬ stqContends s = true := fun e => ((stqContends_iff s).1 e).1 (by rw [h.router]; rfl)
  have hptq : ¬ s.fmt.ptq ≠ [] := by simp [h.fmt, Formatter.reset]
  rw [grantee_eq, if_neg hrx, if_neg hkey, if_neg hstq, if_neg hptq]

/-- R49, R51: no stall ends or begins, and no source is granted the line. -/
theorem judgeFormatter_atRest (h : AtRest s) : judgeFormatter s = s := by
  have hend : endStall s = s := endStall_elsewhere (by simp [h.fmt, Formatter.reset])
  have hgrant : grant s = s := if_neg (by simp [grantee_atRest h])
  have hitem : nextItem s = none := by simp only [nextItem, h.fmt, Formatter.reset]
  have hbegin : beginStall s = s := by simp [beginStall, hitem]
  rw [judgeFormatter, hend, hgrant, hbegin]

/-- R183: an idle transmitter with no reply waiting and no report pending stays idle. -/
theorem kickLink_idle (htx : s.link.tx = none) (hreplies : s.link.replies = []) (hreport : firstReport s = none) :
    kickLink s = s := by
  have hsend := sendReport_sending s
  rw [hreport] at hsend
  rw [kickLink_report htx hreplies, hsend]

/-! ### A part that a reset holds (R194) -/

/-- R194: what is known of a held part is the whole of it. -/
theorem heldSince_iff : HeldSince s at0 cause cfg ends t ↔
    t = { State.held cause cfg s.head.paper s.link with now := at0, pending := s.pending, resetEnd := ends } := by
  constructor
  · rcases t with
      ⟨now, pending, resetting, resetEnd, link, supply, head, fmt, format, tone, signal, monitor, conn, router, keys⟩
    rintro ⟨hnow, hpending, hresetting, hends, hlink, hsupply, hhead, hfmt, hformat, htone, hsignal, hmonitor, hconn, hrouter,
      hkeys⟩
    dsimp only at *
    subst_vars
    rfl
  · rintro rfl
    exact ⟨rfl, rfl, rfl, rfl, rfl, rfl, rfl, rfl, rfl, rfl, rfl, rfl, rfl, rfl, rfl⟩

theorem atRest_of_heldSince (h : HeldSince s at0 cause cfg ends t) : AtRest t where
  tone := h.tone
  fmt := h.fmt
  conn := h.conn
  router := h.router
  keys := by rw [h.keys]; rfl

/-- The end of the row in which a reset takes effect changes nothing more. -/
theorem settleRow_heldSince (h : HeldSince s at0 cause cfg ends t) : settleRow t = t := by
  have hkick : kickLink t = t := by
    refine kickLink_idle (by rw [h.link]; rfl) (by rw [h.link]; rfl) ?_
    simp [firstReport, h.link, LinkPort.reset]
  have hrest := atRest_of_heldSince h
  rw [settleRow, settleTone_atRest hrest, judgeFormatter_atRest hrest, hkick, judgeFormatter_atRest hrest]

/-! ### The resets take effect (R194, R195) -/

theorem powerUpReset_heldSince (dt : Micros) (s : State) :
    ∃ t, exec (.powerUpReset dt) s = .next t ∧ HeldSince s (s.now + dt) .power none none t :=
  ⟨_, rfl, heldSince_iff.2 rfl⟩

theorem generalReset_running (h : s.resetting ≠ some .power) :
    generalReset cause ends s = enterReset cause s.head.config ends s := by
  rw [generalReset, if_neg h]

/-- R194: a power-up reset in progress keeps its cause (log 15). -/
theorem generalReset_power (h : s.resetting = some .power) :
    generalReset cause ends s = enterReset .power s.head.config ends s := by
  rw [generalReset, if_pos h]

theorem generalResetFromPin_eq (dt : Micros) (s : State) :
    exec (.generalResetFromPin dt) s = .next (generalReset .pin none (after dt s)) := rfl

/-- R195: the frame of RESTART's reply ends, and its reset takes effect at that moment. -/
theorem endFrame_restart {f : TxFrame} (htx : s.link.tx = some f) (hf : f.restart = true) :
    endFrame s = restartReset { s with link := { s.link with tx := none } } := by
  simp only [endFrame, htx, endTxFrame, hf, if_true]

theorem linkFrameEnd_heldSince {f : TxFrame} (hreset : s.resetting = none) (htx : s.link.tx = some f)
    (hf : f.restart = true) : ∃ t, exec .linkFrameEnd s = .next t
      ∧ HeldSince s (max s.now f.due) .command s.head.config (some (max s.now f.due + 1000)) t := by
  have heffect : HeldSince s (max s.now f.due) .command s.head.config (some (max s.now f.due + 1000))
      (endFrame (atMoment f.due s)) := by
    rw [endFrame_restart (s := atMoment f.due s) htx hf, restartReset, generalReset_running (by simp [hreset])]
    exact heldSince_iff.2 rfl
  refine ⟨_, ?_, heffect⟩
  rw [linkFrameEnd_due hreset (congrArg (Option.map TxFrame.due) htx), settleRow_heldSince heffect]

/-- R194: a command does nothing while a reset holds the part. -/
theorem commandRow_held {kind : Byte} {dt : Micros} {p : List Byte} {act : State → State × Reply} (h : s.resetting ≠ none) :
    commandRow kind dt p act s = .next s :=
  row_held _ h

/-- R194: under a reset every row is held, but the resets' own and the paper sensor's (log 15). -/
theorem exec_held {i : Instr} (hreset : s.resetting ≠ none)
    (hother : ∀ dt, i ≠ .powerUpReset dt ∧ i ≠ .generalResetFromPin dt ∧ i ≠ .resetEnd dt ∧ i ≠ .paperSensorChange dt) :
    exec i s = .next s := by
  cases i <;> dsimp only [exec]
  case powerUpReset dt => exact absurd rfl (hother dt).1
  case generalResetFromPin dt => exact absurd rfl (hother dt).2.1
  case resetEnd dt => exact absurd rfl (hother dt).2.2.1
  case paperSensorChange dt => exact absurd rfl (hother dt).2.2.2
  case gapTimerExpiry | linkFrameEnd | energizingTimerExpiry | holdTimerExpiry | loadingEnd | pulseEnd | stepEnd
      | settlePeriodEnd | paperPresentTimerExpiry | converterReading | lapseTimerExpiry | flushTimerExpiry
      | breakTimerExpiry | breakMarkEnd | carrierWindowEnd | connectTimerExpiry | settleTimerExpiry | dropoutTimerExpiry
      | clearingTimerExpiry | remoteHoldTimerExpiry | scanReading | repeatTimerExpiry | beeperEndTime =>
    exact timerRow_held _ _ hreset
  case strayByte | leadByte | lengthByteAbove40 | unreadyFrame | unknownKindFrame | wrongCheckByte | frameByteReceived
      | formatterTakeItem | drainCommit | formFeedEntryAppend | feedEntryAppend | halfPeriodEnd | characterFinished
      | breakWatchEnd | framerTake | framerCharacterEnd | routerTake | cellCentre | cellBoundary =>
    exact row_held _ hreset
  all_goals exact commandRow_held hreset

/-- Settles O10: each reset leaves the whole of a held part, and any other row is held by `exec_held`. -/
theorem resetsTakeEffect : Obligations.ResetsTakeEffect := by
  refine ⟨fun s i => exec_held, fun s dt => paperSensorChange_held, fun s dt =>
    ⟨powerUpReset_heldSince dt s, fun hcause => ?_, fun hcause => ?_, fun f => linkFrameEnd_heldSince⟩⟩
  · rw [generalResetFromPin_eq, generalReset_running (s := after dt s) hcause]
    exact ⟨_, rfl, heldSince_iff.2 rfl⟩
  · rw [generalResetFromPin_eq, generalReset_power (s := after dt s) hcause]
    exact ⟨_, rfl, heldSince_iff.2 rfl⟩

/-! ### A reset ends (R194, R196) -/

/-- R194: the moment at which a reset that took effect at `at0` ends. -/
def endsAt (at0 dt : Micros) (ends : Timer) : Micros :=
  match ends with
  | some due => max at0 due
  | none => at0 + dt

/-- R194, R196: the part when a reset has ended at the moment `now`: all is as the reset left it, but that RESTARTED is set with
the reset's cause, its CONDITION report is being sent, and the timers that run from a reset's end have begun. -/
def begunAnew (cause : Cause) (cfg : Option HeadConfig) (paper : Bool) (now : Micros) (pending : List Instr) : State where
  now := now
  pending := pending
  resetting := none
  resetEnd := none
  link := { LinkPort.reset with
    latches := 1
    keptCause := some cause
    lastCause := cause
    tx := some { bytes := [0xC3, 0x61, 0x02, 0x01, 0x00, 0x9C], due := now + 6 * 521, restart := false } }
  supply := { Supply.reset with conversion := some (now + 1000) }
  head := { Head.reset cfg paper with paperTimer := if paper then some (now + 1000000) else none }
  fmt := .reset
  format := .reset
  tone := .reset
  signal := .reset
  monitor := { Monitor.reset with window := some (now + 10000) }
  conn := .reset
  router := .reset
  keys := { Keys.reset with slot := some (now + 500) }

theorem resetMoment_heldSince (h : HeldSince r at0 cause cfg ends s) (dt : Micros) :
    HeldSince r (endsAt at0 dt ends) cause cfg ends (resetMoment dt s) := by
  unfold resetMoment endsAt
  rw [h.resetEnd]
  cases ends with
  | none => exact { h with now := congrArg (· + dt) h.now }
  | some due => exact { h with now := congrArg (max · due) h.now }

theorem endReset_atRest (h : HeldSince r at0 cause cfg ends s) : AtRest (endReset cause s) :=
  { atRest_of_heldSince h with }

theorem isSet_of_no_latches {k : LinkPort} (h : k.latches = 0) (l : Latch) : k.isSet l = false := by
  simp [LinkPort.isSet, h]

/-- R187, R191, R194: RESTARTED is the one latch set, and asks for a report where CONDITION is enabled. -/
theorem restarted_eq (cause : Cause) (k : LinkPort) : k.restarted cause = { k with
    latches := 1, lastCause := cause, keptCause := some cause, pendCondition := k.pendCondition || k.mask.condition } := by
  rw [LinkPort.restarted, setLatch_of_clear _ (isSet_of_no_latches rfl _)]
  simp [Latch.bit]

/-- R194: the part at the end of a reset, before the arbiter has chosen the first frame. -/
theorem endReset_heldSince (h : HeldSince r at0 cause cfg ends s) :
    endReset cause s = { begunAnew cause cfg r.head.paper at0 r.pending with
      link := { LinkPort.reset with latches := 1, keptCause := some cause, lastCause := cause, pendCondition := true } } := by
  obtain rfl := heldSince_iff.1 h
  rw [endReset, restarted_eq]
  rfl

/-- R189: the CONDITION report of RESTARTED alone. -/
theorem framed_restarted : framed 0x61 (twoBytes (1 : BitVec 16).toNat) = [0xC3, 0x61, 0x02, 0x01, 0x00, 0x9C] := by decide

/-- R183, R184, R196: at a reset's end the idle transmitter begins the CONDITION report. -/
theorem kickLink_endReset (h : HeldSince r at0 cause cfg ends s) :
    kickLink (endReset cause s) = begunAnew cause cfg r.head.paper at0 r.pending := by
  rw [endReset_heldSince h, kickLink_report rfl rfl, sendReport, if_pos rfl, sendCondition_eq, sending, framed_restarted]
  rfl

theorem begunAnew_atRest (cause : Cause) (cfg : Option HeadConfig) (paper : Bool) (now : Micros) (pending : List Instr) :
    AtRest (begunAnew cause cfg paper now pending) := ⟨rfl, rfl, rfl, rfl, rfl⟩

theorem settleRow_endReset (h : HeldSince r at0 cause cfg ends s) :
    settleRow (endReset cause s) = begunAnew cause cfg r.head.paper at0 r.pending := by
  rw [settleRow, settleTone_atRest (endReset_atRest h), judgeFormatter_atRest (endReset_atRest h), kickLink_endReset h,
    judgeFormatter_atRest (begunAnew_atRest ..)]

theorem resetEnd_heldSince (h : HeldSince r at0 cause cfg ends s) (dt : Micros) :
    exec (.resetEnd dt) s = .next (begunAnew cause cfg r.head.paper (endsAt at0 dt ends) r.pending) := by
  rw [resetEnd_held h.resetting, settleRow_endReset (resetMoment_heldSince h dt)]

/-- Settles O11: the part has begun anew, with each field as `begunAnew` gives it. -/
theorem resetEnds : Obligations.ResetEnds := by
  intro r s dt at0 cause cfg ends h
  exact ⟨_, resetEnd_heldSince h dt, rfl, rfl, rfl, rfl, rfl, rfl, rfl, rfl, rfl, rfl, rfl, rfl, rfl, rfl, rfl, rfl, rfl, rfl⟩

/-! ### The reset state (log 8) -/

theorem begunAnew_eq_reset : begunAnew .power none false 0 [] = State.reset := rfl

theorem powerUp_heldSince (s : State) : HeldSince s s.now .power none none (powerUp s) := heldSince_iff.2 rfl

/-- The invariants, gathered from the forms in which each was shown to be kept. -/
theorem sound_of_kept (hblocks : Kept 0 s) (hfmt : FormatterSound s.fmt) (hcall : CallAndKeys s) : Sound s where
  queues := hblocks.queuesFit
  slot := hblocks.slotAgrees
  settings := hblocks.settingsOk
  counters := hblocks.countersFit
  wire := hblocks.wireOk
  formatter := FormatterSound.iff_formatterOk.1 hfmt
  driver := hblocks.driverOk
  rows := hblocks.rowsOk
  connection := CallSound.iff_connectionOk.1 hcall.call
  keyboard := KeysSound.iff_keyboardOk.1 hcall.keys

/-- R194: whatever went before, the part is sound when a power-up reset has ended. -/
theorem powerUp_ended_sound (s : State) : Sound (settleRow (endReset .power (powerUp s))) :=
  sound_of_kept (settleRow_kept (endReset_kept (powerUp_kept s) _))
    (settleRow_sound (s := endReset .power (powerUp s)) FormatterSound.reset)
    (settleRow_callAndKeys _ (endReset_callAndKeys (enterReset_callAndKeys _ _ _ _) rfl _))

theorem reset_sound : Sound State.reset := by
  have hended : settleRow (endReset .power (powerUp State.reset)) = State.reset :=
    (settleRow_endReset (powerUp_heldSince State.reset)).trans begunAnew_eq_reset
  exact hended ▸ powerUp_ended_sound State.reset

/-- Settles O12: what a power-up reset holds begins anew as `State.reset`, and `reset_sound`. -/
theorem resetStateIsPowerUp : Obligations.ResetStateIsPowerUp := by
  refine ⟨fun s u t hnow hpending hpaper hreset hend => ?_, reset_sound⟩
  obtain ⟨v, hv, hheld⟩ := powerUpReset_heldSince 0 s
  obtain rfl := Host.Outcome.next.inj (hv.symm.trans hreset)
  have hbegun := resetEnd_heldSince hheld 0
  rw [hnow, hpending, hpaper] at hbegun
  exact (Host.Outcome.next.inj (hend.symm.trans hbegun)).trans begunAnew_eq_reset

end Sys2Proof.Steps
end

section
/-!
O1: the front of the queue decides a step (log 1).
-/

namespace Sys2Proof.Steps

open Sys2Proof.Machine

/-- Log 1: with nothing waiting the part idles. -/
theorem step_of_no_pending {s : State} (h : s.pending = []) : step s = .next s := by
  simp only [step, h]

/-- Settles O1: a step by what waits, a command in front (`step_of_pending`) or nothing. -/
theorem stepRunsTheFrontCommand : Obligations.StepRunsTheFrontCommand :=
  ⟨fun i s => step_of_pending (s := { s with pending := i :: s.pending }) rfl, fun _ => step_of_no_pending⟩

end Sys2Proof.Steps
end
